-- ==== Sys2Proof/Word.lean ====
section
/-! DEFINITION. The words of the block: 64-bit lanes and host words, bytes, and the two word arrays. -/

namespace Sys2Proof

/-- A lane, a buffer word, a command word, a host word: 64 bits (00_scope.md R8, R9; 20_memory.md R53). -/
abbrev Word := BitVec 64

/-- A byte of the state, the block buffer or a message (00_scope.md R15). -/
abbrev Byte := BitVec 8

/-- The sponge state `S`: 25 lanes by linear index `i = x + 5·y` (10_state.md R20, R21). -/
abbrev Lanes := Vector Word 25

/-- The input block buffer `BLK[0..17]` (10_state.md R26). -/
abbrev BlkWords := Vector Word 18

/-- The index of a word in the host register window, 0x00 to 0x7F (20_memory.md R52). -/
abbrev WordIndex := BitVec 7

end Sys2Proof
end

