-- ==== Sys2Proof/Config.lean ====
section
/-! DEFINITION. What the spec leaves open. The parameters P_LATENCY, P_BUS_BINDING and P_RESET_KIND
enter no rule (00_scope.md R9: "A model takes them as arguments or ignores them") and are ignored. -/

namespace Sys2Proof

/-- The value of the n-th host read of STATE made while BUSY = 1: a draw, "any 64-bit value, under no
law, drawn afresh for every read" (20_memory.md R57). It has no body, so nothing can be proved of its value. -/
opaque Config.draw : Nat → Word

end Sys2Proof
end

