-- ==== Sys2Proof/Syntax.lean ====
section
/-! DEFINITION. The block's commands, one constructor per row of spec/opcode_table.json. -/

namespace Sys2Proof

/-- A well-formed command (30_encoding.md R81, R86). Each operand is the field's bits as they stand in the
word, reserved values included: INIT with VAR = 2 or 3 and FINAL with an over-long LEN are commands,
which the block answers with an error (R84, R82). -/
inductive Instr where
  /-- INIT: start a computation (41_sponge.md R141); `var` is VAR = w[17:16] (30_encoding.md R84). -/
  | init (var : BitVec 2)
  /-- ABSORB: absorb one full block from BLK (41_sponge.md R142). -/
  | absorb
  /-- FINAL: pad and absorb the last block (42_padding_rate.md R176); `len` is LEN = w[15:8] (30_encoding.md R82). -/
  | final (len : BitVec 8)
  /-- PERMUTE: apply Keccak-f[1600] to the state (40_permutation.md R120). -/
  | permute
deriving DecidableEq, Repr

end Sys2Proof
end

