-- ==== Sys2Proof/Machine/State.lean ====
section
/-! DEFINITION. The machine's state: the block's registers, and beside them the host, the order in which the
agents move, and the counter of the free values. -/

namespace Sys2Proof.Machine

/-- The latched variant, the values of the 2-bit register VAR (10_state.md R25). Codes 2 and 3 "never reach
VAR", so they have no constructor (DEDUCED, safe: notes/assumptions/6.md). -/
inductive Variant where
  | sha3_224
  | sha3_256
deriving DecidableEq, Repr

/-- The values of PHASE; the code 3 is "never held" (10_state.md R27). -/
inductive Phase where
  /-- No computation has started since reset. -/
  | idle
  /-- INIT done; blocks may be absorbed. -/
  | absorb
  /-- FINAL done; the digest is in the rate part of S. -/
  | done
deriving DecidableEq, Repr

/-- The values of the 4-bit ERR register; codes 7 to 15 are "never raised" (60_exceptions.md R200). -/
inductive Err where
  | none
  | illegalCmd
  | badVariant
  | sequence
  | badLength
  | busyAccess
  | badAddress
deriving DecidableEq, Repr

/-- PEND, the accepted command that has not yet completed (10_state.md R29). -/
inductive Pend where
  | none
  | absorb
  | final (len : BitVec 8)
  | permute
deriving DecidableEq, Repr

/-- What a word index of the host window names (20_memory.md R54). -/
inductive Reg where
  | cmd
  | status
  | blk (j : Fin 18)
  | state (i : Fin 25)
  | reserved
deriving DecidableEq, Repr

/-- One operation of a host program (30_encoding.md R91, R92); each but a repeated `poll` is one transaction. -/
inductive HostOp where
  /-- `wr`: one host write. -/
  | wr (widx : WordIndex) (v : Word)
  /-- `rd`: one host read. -/
  | rd (widx : WordIndex)
  /-- `poll`: read STATUS until its bit 0 is 0. -/
  | poll
deriving DecidableEq, Repr

/-- The agents that take steps (00_scope.md R7). -/
inductive Agent where
  | host
  | engine
  | reset
deriving DecidableEq, Repr

/-- What one step of the machine does. -/
inductive Move where
  /-- The agent whose turn it is has no enabled step (DESIGN CHOICE, safe: notes/assumptions/3.md). -/
  | idle
  /-- The host performs `op`. -/
  | host (op : HostOp)
  /-- The engine completes the pending command (10_state.md R31). -/
  | engine
  /-- The reset source asserts reset (70_reset_and_hazards.md R230). -/
  | reset
deriving DecidableEq, Repr

/-- The machine stops with a fault: never. The spec gives no behaviour that stops the block: every misuse
sets an error code and the block goes on (60_exceptions.md R200, R202, R208), and every 64-bit command word
has one outcome (30_encoding.md R87). So there is no constructor, and no claim can rest on a fault. -/
inductive Fault where
deriving DecidableEq, Repr

/-- The model has no meaning for an instruction. -/
inductive Refusal where
  /-- Raised only by an arm of `exec` for an instruction not yet modelled; no arm raises it now. Safe: a
  refusal proves nothing about the hardware. -/
  | notModelled (mnemonic : String)
deriving DecidableEq, Repr

/-- The state. The first eight fields are all the state the spec gives the block (10_state.md R39); the last
four are the model's own: the host's program and what it has read, whose turn it is, and the count of the
free values used. -/
structure State where
  /-- `S`, the 25 lanes (10_state.md R20, R21). -/
  lanes : Lanes
  /-- `BLK`, the input block buffer (10_state.md R26). -/
  blk : BlkWords
  /-- `VAR`, the latched variant (10_state.md R25). -/
  var : Variant
  /-- `PHASE` (10_state.md R27). -/
  phase : Phase
  /-- `BUSY` (10_state.md R28). -/
  busy : Bool
  /-- `PEND` (10_state.md R29). -/
  pend : Pend
  /-- `ERR` (10_state.md R30). -/
  err : Err
  /-- `BLOCKS`, the 32-bit block counter (10_state.md R32). -/
  blocks : BitVec 32
  /-- The operations the host has still to perform, the next one first (DESIGN CHOICE: notes/assumptions/2.md). -/
  host : List HostOp
  /-- Whose turn the next steps are; when it is empty the engine moves while BUSY = 1, else the host
  (DESIGN CHOICE: notes/assumptions/1.md). -/
  sched : List Agent
  /-- The values the host's `rd` operations returned, the latest first (DESIGN CHOICE: notes/assumptions/5.md). -/
  replies : List Word
  /-- How many draws have been returned (DESIGN CHOICE: notes/assumptions/4.md). -/
  draws : Nat
deriving DecidableEq, Repr

/-- The machine right after reset: every register at its value in 10_state.md R39, and a host with nothing to
do (DESIGN CHOICE for the model's own fields: notes/assumptions/2.md, 4.md and 5.md). -/
def State.reset : State where
  lanes := Vector.replicate 25 0#64
  blk := Vector.replicate 18 0#64
  var := .sha3_224
  phase := .idle
  busy := false
  pend := .none
  err := .none
  blocks := 0#32
  host := []
  sched := []
  replies := []
  draws := 0

end Sys2Proof.Machine
end

