-- ==== Sys2Proof/Machine/Ops.lean ====
section
/-! DEFINITION. The shared operations: the byte views of words, lanes and buffer; the writes of single
registers; raising an error, the error lock and its release; accepting and retiring a command; reset. -/

namespace Sys2Proof.Machine

/-- Byte m of a word is bits [8·m + 7 : 8·m] (20_memory.md R50). -/
def byteOf (w : Word) (m : Nat) : Byte := w.extractLsb' (8 * m) 8

/-- The word whose byte m is `f m`, little-endian (20_memory.md R50). -/
def packWord (f : Fin 8 → Byte) : Word := f 7 ++ f 6 ++ f 5 ++ f 4 ++ f 3 ++ f 2 ++ f 1 ++ f 0

/-- `Sb[j]`, byte j of the state (10_state.md R22; 00_scope.md R13). -/
def stateByte (a : Lanes) (j : Fin 200) : Byte := byteOf a[j.val / 8] (j.val % 8)

/-- The lanes whose byte view is `f` (10_state.md R22: "Writing one view changes the other to match"). -/
def lanesOfBytes (f : Fin 200 → Byte) : Lanes :=
  Vector.ofFn fun i => packWord fun m => f ⟨8 * i.val + m.val, by omega⟩

/-- `BLKb[j]`, byte j of the block buffer (10_state.md R26). -/
def blkByte (b : BlkWords) (j : Fin 144) : Byte := byteOf b[j.val / 8] (j.val % 8)

/-- `lane(i) <- v` (20_memory.md R60). -/
def State.setLane (s : State) (i : Fin 25) (v : Word) : State := { s with lanes := s.lanes.set i.val v }

/-- `BLK[j] <- v` (20_memory.md R60). -/
def State.setBlk (s : State) (j : Fin 18) (v : Word) : State := { s with blk := s.blk.set j.val v }

/-- `raise Err(code)`: the error entry of the block. ERR takes the code only if it was 0; nothing else changes
(00_scope.md R14; 60_exceptions.md R201, R208). -/
def State.raise (s : State) (code : Err) : State := { s with err := if s.err = .none then code else s.err }

/-- The checks every command but a valid INIT passes before its own: BUSY first, which raises BUSY_ACCESS,
then the error lock, which drops the command silently (30_encoding.md R89; 60_exceptions.md R203, R205). -/
def State.guarded (s : State) (body : State → State) : State :=
  if s.busy then s.raise .busyAccess
  else if s.err = .none then body s
  else s

/-- Acceptance: `PEND <- p; BUSY <- 1` (30_encoding.md R89). -/
def State.accept (s : State) (p : Pend) : State := { s with pend := p, busy := true }

/-- The end of a completion: `PEND <- NONE; BUSY <- 0` (10_state.md R31). -/
def State.retire (s : State) : State := { s with pend := .none, busy := false }

/-- `do_init(var)` (41_sponge.md R141). It is also one of the two releases of the error lock, the block's
"trap return" (60_exceptions.md R204). -/
def State.doInit (s : State) (v : Variant) : State :=
  { s with lanes := Vector.replicate 25 0#64, var := v, phase := .absorb, blocks := 0#32, err := .none }

/-- Reset sets every register of the block to its reset value and abandons a pending command
(70_reset_and_hazards.md R230); the other release of the error lock (60_exceptions.md R204). The host, the
turns and the count of draws are not the block's and stay (DESIGN CHOICE: notes/assumptions/8.md). -/
def State.resetBlock (s : State) : State :=
  { State.reset with host := s.host, sched := s.sched, replies := s.replies, draws := s.draws }

/-- The turn is taken: the schedule moves on. -/
def State.popSched (s : State) : State := { s with sched := s.sched.tail }

/-- The host's operation is done: its program moves on. -/
def State.popHost (s : State) : State := { s with host := s.host.tail }

end Sys2Proof.Machine
end

