-- ==== Sys2Proof/Machine/Keccak.lean ====
section
/-! DEFINITION. The permutation Keccak-f[1600]: the step mappings, the round, the 24 rounds, the two constant
tables as literal data, and the two procedures that generate the tables (40_permutation.md). -/

namespace Sys2Proof.Machine

/-- `ROTL(a, n)`: bit i moves to bit (i + n) mod 64 (00_scope.md R11). -/
def rotl (a : Word) (n : Nat) : Word := a.rotateLeft n

/-- `A[x,y] = lane(x + 5·y)` (10_state.md R21). -/
def laneXY (a : Lanes) (x y : Fin 5) : Word := a[x.val + 5 * y.val]

/-- The array whose lane at (x,y) is `f x y` (10_state.md R21). -/
def lanesOfXY (f : Fin 5 → Fin 5 → Word) : Lanes :=
  Vector.ofFn fun i => f ⟨i.val % 5, by omega⟩ ⟨i.val / 5, by omega⟩

/-- The rotation offsets r[x,y] by linear index x + 5·y (40_permutation.md R104). -/
def rhoOffsets : Vector Nat 25 :=
  #v[0, 1, 62, 28, 27, 36, 44, 6, 55, 20, 3, 10, 43, 25, 39, 41, 45, 15, 21, 8, 18, 2, 61, 56, 14]

/-- The round constants RC[0..23] (40_permutation.md R106). -/
def roundConstants : Vector Word 24 :=
  #v[0x0000000000000001#64, 0x0000000000008082#64, 0x800000000000808A#64, 0x8000000080008000#64,
     0x000000000000808B#64, 0x0000000080000001#64, 0x8000000080008081#64, 0x8000000000008009#64,
     0x000000000000008A#64, 0x0000000000000088#64, 0x0000000080008009#64, 0x000000008000000A#64,
     0x000000008000808B#64, 0x800000000000008B#64, 0x8000000000008089#64, 0x8000000000008003#64,
     0x8000000000008002#64, 0x8000000000000080#64, 0x000000000000800A#64, 0x800000008000000A#64,
     0x8000000080008081#64, 0x8000000000008080#64, 0x0000000080000001#64, 0x8000000080008008#64]

/-- θ's column parity C[x] (40_permutation.md R102). -/
def columnParity (a : Lanes) (x : Fin 5) : Word :=
  laneXY a x 0 ^^^ laneXY a x 1 ^^^ laneXY a x 2 ^^^ laneXY a x 3 ^^^ laneXY a x 4

/-- θ (40_permutation.md R102); coordinates of type `Fin 5` are reduced modulo 5 (00_scope.md R12). -/
def theta (a : Lanes) : Lanes :=
  let parity : Vector Word 5 := Vector.ofFn (columnParity a)
  let delta : Vector Word 5 := Vector.ofFn fun x : Fin 5 => parity.get (x - 1) ^^^ rotl (parity.get (x + 1)) 1
  lanesOfXY fun x y => laneXY a x y ^^^ delta.get x

/-- ρ (40_permutation.md R103). -/
def rho (a : Lanes) : Lanes := lanesOfXY fun x y => rotl (laneXY a x y) rhoOffsets[x.val + 5 * y.val]

/-- π, as a read of the input: A'[x,y] = A[(x + 3·y) mod 5, x] (40_permutation.md R105). -/
def piStep (a : Lanes) : Lanes := lanesOfXY fun x y => laneXY a (x + 3 * y) x

/-- χ (40_permutation.md R108). -/
def chi (a : Lanes) : Lanes :=
  lanesOfXY fun x y => laneXY a x y ^^^ (~~~(laneXY a (x + 1) y) &&& laneXY a (x + 2) y)

/-- ι: only the lane at (0,0) changes (40_permutation.md R109). -/
def iota (a : Lanes) (i : Fin 24) : Lanes := a.set 0 (a[0] ^^^ roundConstants[i.val])

/-- The round function Rnd(A, i) (40_permutation.md R101). -/
def rnd (a : Lanes) (i : Fin 24) : Lanes := iota (chi (piStep (rho (theta a)))) i

/-- Keccak-f[1600]: the rounds 0, 1, …, 23 in that order (40_permutation.md R110; 00_scope.md R19).
It is marked irreducible so that comparing two states never starts to run it; `unfold keccakF` opens it. -/
@[irreducible] def keccakF (a : Lanes) : Lanes := (List.finRange 24).foldl rnd a

/-- The walk that generates the rotation offsets (40_permutation.md R104): a check of the table, which the
permutation does not use. -/
def walkOffsets : Vector Nat 25 :=
  ((List.range 24).foldl
    (fun (p : (Fin 5 × Fin 5) × Vector Nat 25) t =>
      ((p.1.2, 2 * p.1.1 + 3 * p.1.2), p.2.set (p.1.1.val + 5 * p.1.2.val) ((t + 1) * (t + 2) / 2 % 64)))
    (((1, 0) : Fin 5 × Fin 5), Vector.replicate 25 0)).2

/-- One turn of the register R[0..7] of 40_permutation.md R107, with R[i] as bit i: R moves up one place, and
the bit that leaves at R[8] is added to R[0], R[4], R[5] and R[6]. -/
def lfsrTurn (r : BitVec 8) : BitVec 8 := (r <<< 1) ^^^ (if r.getLsbD 7 then 0x71#8 else 0x00#8)

/-- The bit rc(t) (40_permutation.md R107). -/
def rcBit (t : Nat) : Bool := (Nat.repeat lfsrTurn (t % 255) 0x01#8).getLsbD 0

/-- The round constant the procedure of 40_permutation.md R107 generates, with bits at 2^j − 1 for j = 0 to 6:
a check of the table, which the permutation does not use. -/
def generatedConstant (i : Nat) : Word :=
  (List.range 7).foldl (fun w j => w ||| ((BitVec.ofBool (rcBit (j + 7 * i))).zeroExtend 64 <<< (2 ^ j - 1))) 0#64

end Sys2Proof.Machine
end

