-- ==== Sys2Proof/Machine/Operands.lean ====
section
/-! DEFINITION. The operands of the commands: the variant code and the rate it selects, LEN's bound, and the
bytes of BLK a command reads. -/

namespace Sys2Proof.Machine

/-- The variant a VAR code selects: 0 and 1; 2 and 3 are reserved (30_encoding.md R84). -/
def variantOfCode (code : BitVec 2) : Option Variant :=
  match code.toNat with
  | 0 => some .sha3_224
  | 1 => some .sha3_256
  | _ => none

/-- rate_bytes (42_padding_rate.md R170). -/
def rateBytes : Variant → Nat
  | .sha3_224 => 144
  | .sha3_256 => 136

/-- capacity_bytes (42_padding_rate.md R170). -/
def capacityBytes : Variant → Nat
  | .sha3_224 => 56
  | .sha3_256 => 64

/-- out_bytes, the digest's length (42_padding_rate.md R170). -/
def outBytes : Variant → Nat
  | .sha3_224 => 28
  | .sha3_256 => 32

/-- `BLKb[0 .. n)`: the first n bytes of the block buffer, what ABSORB and FINAL read (10_state.md R26). -/
def blkBytes (b : BlkWords) (n : Nat) : List Byte := ((List.finRange 144).map (blkByte b)).take n

end Sys2Proof.Machine
end

