-- ==== Sys2Proof/Machine/Sponge.lean ====
section
/-! DEFINITION. The sponge layer: the absorb primitive, the digest read-out, INIT, and ABSORB's acceptance
and completion (41_sponge.md). -/

namespace Sys2Proof.Machine

/-- The XOR of the absorb primitive: `Sb[j] <- Sb[j] ⊕ B[j]` for each byte of the block, and every state byte
past the block stays (41_sponge.md R143, R144). -/
def xorBlock (a : Lanes) (block : List Byte) : Lanes :=
  lanesOfBytes fun j =>
    match block[j.val]? with
    | some b => stateByte a j ^^^ b
    | none => stateByte a j

/-- The absorb primitive: XOR the block in, then permute the whole state (41_sponge.md R143). -/
def absorb (a : Lanes) (block : List Byte) : Lanes := keccakF (xorBlock a block)

/-- `Sb[0 .. n)`: the squeeze read (41_sponge.md R146). -/
def stateBytes (a : Lanes) (n : Nat) : List Byte := ((List.finRange 200).map (stateByte a)).take n

/-- INIT as a CMD write: refused while busy; accepted for a VAR of 0 or 1 even under the error lock; with a
reserved VAR it raises BAD_VARIANT, or is dropped under the lock (41_sponge.md R141; 30_encoding.md R84, R89). -/
def execInit (var : BitVec 2) (s : State) : Host.Outcome State Fault Refusal :=
  .next (if s.busy then s.raise .busyAccess
    else match variantOfCode var with
      | some v => s.doInit v
      | none => s.guarded fun s => s.raise .badVariant)

/-- ABSORB as a CMD write: accepted in phase ABSORB only (41_sponge.md R142; 30_encoding.md R89). -/
def execAbsorb (s : State) : Host.Outcome State Fault Refusal :=
  .next (s.guarded fun s => if s.phase = .absorb then s.accept .absorb else s.raise .sequence)

/-- `absorb_block()`, less the retiring (41_sponge.md R142); BLOCKS wraps (10_state.md R32). -/
def State.completeAbsorb (s : State) : State :=
  { s with lanes := absorb s.lanes (blkBytes s.blk (rateBytes s.var)), blocks := s.blocks + 1#32 }

end Sys2Proof.Machine
end

