-- ==== Sys2Proof/Machine/Padding.lean ====
section
/-! DEFINITION. The padding and rate controller: pad10*1 with the SHA3 suffix, the final block, and FINAL's
acceptance and completion (42_padding_rate.md). -/

namespace Sys2Proof.Machine

/-- `padbytes(p)`, the p pad bytes for 1 ≤ p (42_padding_rate.md R173). -/
def padBytes (p : Nat) : List Byte :=
  if p = 1 then [0x86#8] else [0x06#8] ++ List.replicate (p - 2) 0x00#8 ++ [0x80#8]

/-- `pad(M, r)` (42_padding_rate.md R173). -/
def pad (m : List Byte) (r : Nat) : List Byte := m ++ padBytes (r - m.length % r)

/-- `final_blockbytes(k)`: the first k bytes of BLK, then the pad up to the rate (42_padding_rate.md R174). -/
def finalBlockBytes (b : BlkWords) (v : Variant) (k : Nat) : List Byte := blkBytes b k ++ padBytes (rateBytes v - k)

/-- FINAL as a CMD write: the phase is checked before the length, and the length against the latched
variant's rate (42_padding_rate.md R176, R177; 30_encoding.md R89). -/
def execFinal (len : BitVec 8) (s : State) : Host.Outcome State Fault Refusal :=
  .next (s.guarded fun s =>
    if s.phase ≠ .absorb then s.raise .sequence
    else if rateBytes s.var ≤ len.toNat then s.raise .badLength
    else s.accept (.final len))

/-- `final_block(k)`, less the retiring (42_padding_rate.md R176). -/
def State.completeFinal (s : State) (len : BitVec 8) : State :=
  { s with
    lanes := absorb s.lanes (finalBlockBytes s.blk s.var len.toNat)
    blocks := s.blocks + 1#32
    phase := .done }

end Sys2Proof.Machine
end

