-- ==== Sys2Proof/Machine/Permutation.lean ====
section
/-! DEFINITION. The PERMUTE command (40_permutation.md R120): its acceptance in the CMD write and its
completion in the engine step. -/

namespace Sys2Proof.Machine

/-- PERMUTE as a CMD write: accepted in every phase (40_permutation.md R120; 30_encoding.md R89). -/
def execPermute (s : State) : Host.Outcome State Fault Refusal := .next (s.guarded fun s => s.accept .permute)

/-- PERMUTE's completion, less the retiring: `S <- KeccakF(S)` (40_permutation.md R120). -/
def State.completePermute (s : State) : State := { s with lanes := keccakF s.lanes }

end Sys2Proof.Machine
end

