-- ==== Sys2Proof/Machine/Engine.lean ====
section
/-! DEFINITION. The engine agent's one step: the completion of the pending command (10_state.md R31). -/

namespace Sys2Proof.Machine

/-- `engine_step`, enabled iff BUSY = 1; it raises nothing (10_state.md R31; 60_exceptions.md R202). With
nothing pending it only retires: no run reaches BUSY = 1 with PEND = NONE (10_state.md R41;
DESIGN CHOICE, safe: notes/assumptions/7.md). -/
def engineStep (s : State) : State :=
  match s.pend with
  | .none => s.retire
  | .absorb => s.completeAbsorb.retire
  | .final len => (s.completeFinal len).retire
  | .permute => s.completePermute.retire

end Sys2Proof.Machine
end

