-- ==== Sys2Proof/WellFormed.lean ====
section
/-! DEFINITION. Which command words are well-formed (30_encoding.md R88), and which commands carry operand
values that some state accepts. -/

namespace Sys2Proof

/-- `wellFormed(w)`: OP is assigned and every bit the command does not use is 0 (30_encoding.md R81, R85,
R88). It is written from R88's bit ranges; the decoder is written from the opcode table's masks. -/
def wellFormed (w : Word) : Bool :=
  match (w.extractLsb' 0 4).toNat with
  | 1 => w.extractLsb' 18 46 == 0#46 && w.extractLsb' 4 12 == 0#12
  | 2 => w.extractLsb' 4 60 == 0#60
  | 3 => w.extractLsb' 16 48 == 0#48 && w.extractLsb' 4 4 == 0#4
  | 4 => w.extractLsb' 4 60 == 0#60
  | _ => false

/-- Whether some state accepts the command: VAR is 0 or 1 (30_encoding.md R84), and LEN is below the larger
rate, 144, since "LEN values 144..255 are always rejected" (R82). -/
def Instr.operandsLegal : Instr → Bool
  | .init var => var.toNat ≤ 1
  | .absorb => true
  | .final len => len.toNat < 144
  | .permute => true

end Sys2Proof
end

