-- ==== Sys2Proof/Decode.lean ====
section
/-! DEFINITION. The command decoder, total on 64-bit words, and after it the encoder (30_encoding.md). -/

namespace Sys2Proof

/-- Why a word is no command; either way the block raises ILLEGAL_CMD (30_encoding.md R85, R86, R87). -/
inductive DecodeReject where
  /-- OP is 0x0 or 0x5 to 0xF (30_encoding.md R86). -/
  | unassignedOp
  /-- OP is assigned and a bit that must be zero is set (30_encoding.md R85). -/
  | mustBeZeroBitSet
deriving DecidableEq, Repr

/-- OP = w[3:0] (30_encoding.md R80). -/
def opField (w : Word) : BitVec 4 := w.extractLsb' 0 4

/-- LEN = w[15:8] (30_encoding.md R80, R82). -/
def lenField (w : Word) : BitVec 8 := w.extractLsb' 8 8

/-- VAR = w[17:16] (30_encoding.md R80, R84). -/
def varField (w : Word) : BitVec 2 := w.extractLsb' 16 2

/-- The command a word encodes, by the masks and match values of spec/opcode_table.json, or the name of the
reason it encodes none (30_encoding.md R81, R86). -/
def decode (w : Word) : Except DecodeReject Instr :=
  if w &&& 0xFFFFFFFFFFFCFFFF#64 = 0x0000000000000001#64 then .ok (.init (varField w))
  else if w &&& 0xFFFFFFFFFFFFFFFF#64 = 0x0000000000000002#64 then .ok .absorb
  else if w &&& 0xFFFFFFFFFFFF00FF#64 = 0x0000000000000003#64 then .ok (.final (lenField w))
  else if w &&& 0xFFFFFFFFFFFFFFFF#64 = 0x0000000000000004#64 then .ok .permute
  else if 1 ≤ (opField w).toNat ∧ (opField w).toNat ≤ 4 then .error .mustBeZeroBitSet
  else .error .unassignedOp

/-- The 64-bit word of a command, field by field from bit 63 down: the format table of 30_encoding.md R80
with the zeros of R81. -/
def encode : Instr → Word
  | .init var => 0#46 ++ var ++ 0#12 ++ 1#4
  | .absorb => 0#60 ++ 2#4
  | .final len => 0#48 ++ len ++ 0#4 ++ 3#4
  | .permute => 0#60 ++ 4#4

/-- The instruction the decoder reads from the word `w`, of which the table gives `nbits` bits (a command is
one 64-bit word, 30_encoding.md R80; bits above `nbits` are 0). -/
def decodeTableWord (nbits w : Nat) : Option Instr :=
  (decode (BitVec.ofNat 64 (w % 2 ^ nbits))).toOption

end Sys2Proof
end

