-- ==== Sys2Proof/Machine/Dispatch.lean ====
section
/-! DEFINITION. The meaning of each command as a write of its word to CMD (30_encoding.md R89). -/

namespace Sys2Proof.Machine

-- One arm per row of spec/opcode_table.json, each one call of that command's own meaning.
def exec (i : Instr) (s : State) : Host.Outcome State Fault Refusal :=
  match i with
  | .init var => Sys2Proof.Machine.execInit var s
  | .absorb => Sys2Proof.Machine.execAbsorb s
  | .final len => Sys2Proof.Machine.execFinal len s
  | .permute => Sys2Proof.Machine.execPermute s

end Sys2Proof.Machine
end

