-- ==== Sys2Proof/Machine/Flags.lean ====
section
/-! DEFINITION. The codes of VAR, PHASE and ERR, and the STATUS word they are packed in. -/

namespace Sys2Proof.Machine

/-- The code of VAR (10_state.md R25). -/
def Variant.code : Variant → BitVec 2
  | .sha3_224 => 0#2
  | .sha3_256 => 1#2

/-- The code of PHASE (10_state.md R27). -/
def Phase.code : Phase → BitVec 2
  | .idle => 0#2
  | .absorb => 1#2
  | .done => 2#2

/-- The code of ERR (60_exceptions.md R200). -/
def Err.code : Err → BitVec 4
  | .none => 0#4
  | .illegalCmd => 1#4
  | .badVariant => 2#4
  | .sequence => 3#4
  | .badLength => 4#4
  | .busyAccess => 5#4
  | .badAddress => 6#4

/-- STATUS, from bit 63 down: BLOCKS [63:32], zeros [31:12], ERR [11:8], zeros [7:6], VAR [5:4], zero [3],
PHASE [2:1], BUSY [0] (10_state.md R34). -/
def State.status (s : State) : Word :=
  s.blocks ++ 0#20 ++ s.err.code ++ 0#2 ++ s.var.code ++ 0#1 ++ s.phase.code ++ BitVec.ofBool s.busy

end Sys2Proof.Machine
end

