-- ==== Sys2Proof/Machine/Window.lean ====
section
/-! DEFINITION. The host register window: the register map, the read transaction, the write transaction and
the decoding of a CMD write (20_memory.md; 30_encoding.md R89). -/

namespace Sys2Proof.Machine

/-- The register map (20_memory.md R54); "no index aliases another". -/
def regOf (widx : WordIndex) : Reg :=
  if widx.toNat = 0x00 then .cmd
  else if widx.toNat = 0x01 then .status
  else if h : 0x10 ≤ widx.toNat ∧ widx.toNat ≤ 0x21 then .blk ⟨widx.toNat - 0x10, by omega⟩
  else if h : 0x40 ≤ widx.toNat ∧ widx.toNat ≤ 0x58 then .state ⟨widx.toNat - 0x40, by omega⟩
  else .reserved

/-- `read_state(i)`: the lane when BUSY = 0, a draw while BUSY = 1 (20_memory.md R57). -/
def State.readState (s : State) (i : Fin 25) : Word := if s.busy then Config.draw s.draws else s.lanes[i.val]

/-- The value `MemRead(widx, 8)` returns (20_memory.md R56). -/
def memRead (widx : WordIndex) (s : State) : Word :=
  match regOf widx with
  | .cmd => 0#64
  | .status => s.status
  | .blk j => s.blk[j.val]
  | .state i => s.readState i
  | .reserved => 0#64

/-- Whether a read of `widx` returns a draw (20_memory.md R57). -/
def readsDraw (widx : WordIndex) (s : State) : Bool :=
  match regOf widx with
  | .state _ => s.busy
  | _ => false

/-- `cmd_write(w)`: a write of w to CMD (30_encoding.md R89). A word that is no command is answered with
ILLEGAL_CMD after the same two checks a command passes. -/
def cmdWrite (w : Word) (s : State) : Host.Outcome State Fault Refusal :=
  match decode w with
  | .ok i => exec i s
  | .error _ => .next (s.guarded fun s => s.raise .illegalCmd)

/-- `MemWrite(widx, 8, v)` (20_memory.md R60 to R63). -/
def memWrite (widx : WordIndex) (v : Word) (s : State) : Host.Outcome State Fault Refusal :=
  match regOf widx with
  | .cmd => cmdWrite v s
  | .status => .next (s.raise .badAddress)
  | .blk j => .next (if s.busy then s.raise .busyAccess else s.setBlk j v)
  | .state i => .next (if s.busy then s.raise .busyAccess else s.setLane i v)
  | .reserved => .next (s.raise .badAddress)

end Sys2Proof.Machine
end

