-- ==== Sys2Proof/Machine/HostAgent.lean ====
section
/-! DEFINITION. The host agent: its operations, whose turn it is, the pseudo-instructions of host programs
and the digest program (30_encoding.md R91, R92; 41_sponge.md R149). -/

namespace Sys2Proof.Machine

/-- The host performs one operation. `wr` and `rd` are one transaction each (20_memory.md R53); a `rd` binds
the value it reads. `poll` reads STATUS and stays at the head of the program while bit 0 of it is 1
(30_encoding.md R92). -/
def hostMove (op : HostOp) (s : State) : Host.Outcome State Fault Refusal :=
  match op with
  | .wr widx v => memWrite widx v s.popHost
  | .rd widx => .next { s.popHost with
      replies := memRead widx s :: s.replies
      draws := if readsDraw widx s then s.draws + 1 else s.draws }
  | .poll => .next (if (memRead 0x01#7 s)[0] then s else s.popHost)

/-- The agent whose turn is next (20_memory.md R66). When the schedule is empty, an enabled engine step is
taken before any host transaction: weak fairness (70_reset_and_hazards.md R240; DESIGN CHOICE:
notes/assumptions/1.md). -/
def State.nextAgent (s : State) : Agent :=
  match s.sched with
  | agent :: _ => agent
  | [] => if s.busy then .engine else .host

/-- What the next step does. The engine step is enabled exactly when BUSY = 1 (10_state.md R31), and the host
has a step while its program is not at its end. -/
def State.nextMove (s : State) : Move :=
  match s.nextAgent with
  | .host =>
    match s.host with
    | op :: _ => .host op
    | [] => .idle
  | .engine => if s.busy then .engine else .idle
  | .reset => .reset

/-- One step that performs `move`. -/
def perform (move : Move) (s : State) : Host.Outcome State Fault Refusal :=
  match move with
  | .idle => .next s
  | .host op => hostMove op s
  | .engine => .next (engineStep s)
  | .reset => .next s.resetBlock

/-- `wr CMD, <command>` (30_encoding.md R91, R92). -/
def HostOp.cmd (i : Instr) : HostOp := .wr 0x00#7 (encode i)

/-- Word j of a byte sequence, little-endian, "with zero bytes after the last given byte" (30_encoding.md R92). -/
def wordOfBytes (bytes : List Byte) (j : Nat) : Word := packWord fun m => bytes.getD (8 * j + m.val) 0#8

/-- `load_block <bytes>`: a write of BLK[j] for j = 0 .. ceil(n/8) − 1 (30_encoding.md R92). -/
def loadBlock (bytes : List Byte) : List HostOp :=
  (List.range ((bytes.length + 7) / 8)).map fun j => .wr (BitVec.ofNat 7 (0x10 + j)) (wordOfBytes bytes j)

/-- The reads of `read_digest` (30_encoding.md R92). -/
def readDigestOps : List HostOp := [.rd 0x40#7, .rd 0x41#7, .rd 0x42#7, .rd 0x43#7]

/-- The digest `read_digest` binds, from the four words read in order (30_encoding.md R92; 41_sponge.md R147). -/
def digestOfWords (v : Variant) (words : List Word) : List Byte :=
  (words.flatMap fun w => (List.range 8).map (byteOf w)).take (outBytes v)

/-- The code of a variant in an INIT word (30_encoding.md R84). -/
def initOf (v : Variant) : Instr := .init v.code

/-- The digest program `DIGEST(V, M)` (41_sponge.md R149). -/
def digestProgram (v : Variant) (m : List Byte) : List HostOp :=
  let r := rateBytes v
  let q := m.length / r
  [.cmd (initOf v)]
    ++ (List.range q).flatMap (fun n => loadBlock ((m.drop (n * r)).take r) ++ [.cmd .absorb, .poll])
    ++ loadBlock (m.drop (q * r))
    ++ [.cmd (.final (BitVec.ofNat 8 (m.length - q * r))), .poll, .rd 0x01#7]
    ++ readDigestOps

end Sys2Proof.Machine
end

