-- ==== Sys2Proof/Machine/Step.lean ====
section
/-! DEFINITION. The step of the machine, and the placing of a command where the next step takes it from. -/

namespace Sys2Proof.Machine

/-- One step of one agent (00_scope.md R7; 20_memory.md R66): the turn is taken off the schedule and the move
is performed. -/
def step (s : State) : Host.Outcome State Fault Refusal := perform s.nextMove s.popSched

/-- `s` with the host about to write the command word `w` to CMD, and the next turn the host's. The block
fetches nothing (10_state.md R40): a command comes to it as a host transaction (DESIGN CHOICE:
notes/assumptions/2.md). -/
def State.withFetchWord (s : State) (nbits w : Nat) : State :=
  { s with host := .wr 0x00#7 (BitVec.ofNat 64 (w % 2 ^ nbits)) :: s.host, sched := .host :: s.sched }

end Sys2Proof.Machine
end

