-- ==== Sys2Proof/Machine/Reference.lean ====
section
/-! DEFINITION. Two functions of the spec that the machine is to agree with, and that no step calls: the
digest function of 41_sponge.md R140 and the CMD write as the spec's pseudocode has it, 30_encoding.md R89. -/

namespace Sys2Proof.Machine

/-- Block n of a padded buffer: `P[n·r .. (n+1)·r)` (41_sponge.md R140). -/
def blockAt (p : List Byte) (r n : Nat) : List Byte := (p.drop (n * r)).take r

/-- The state after the first n blocks of `p` are absorbed in order, from the all-zero state (41_sponge.md
R140, steps 1 and 3). -/
def absorbBlocks (p : List Byte) (r n : Nat) : Lanes :=
  (List.range n).foldl (fun a k => absorb a (blockAt p r k)) (Vector.replicate 25 0#64)

/-- `SHA3(V, M)` (41_sponge.md R140). -/
def sha3 (v : Variant) (m : List Byte) : List Byte :=
  let p := pad m (rateBytes v)
  stateBytes (absorbBlocks p (rateBytes v) (p.length / rateBytes v)) (outBytes v)

/-- `cmd_write(w)` line by line as 30_encoding.md R89 writes it, on the word's fields and R88's check. -/
def specCmdWrite (w : Word) (s : State) : State :=
  let op := (w.extractLsb' 0 4).toNat
  let len := w.extractLsb' 8 8
  let var := (w.extractLsb' 16 2).toNat
  if s.busy = true then s.raise .busyAccess
  else if s.err ≠ .none then
    if wellFormed w = true ∧ op = 1 ∧ var ≤ 1 then s.doInit (if var = 0 then .sha3_224 else .sha3_256) else s
  else if wellFormed w = false then s.raise .illegalCmd
  else if op = 1 then
    if 2 ≤ var then s.raise .badVariant else s.doInit (if var = 0 then .sha3_224 else .sha3_256)
  else if op = 2 then
    if s.phase ≠ .absorb then s.raise .sequence else { s with pend := .absorb, busy := true }
  else if op = 3 then
    if s.phase ≠ .absorb then s.raise .sequence
    else if rateBytes s.var ≤ len.toNat then s.raise .badLength
    else { s with pend := .final len, busy := true }
  else { s with pend := .permute, busy := true }

end Sys2Proof.Machine
end

