-- ==== Sys2Proof/Safety.lean ====
section
/-! DEFINITION. The invariant of reachable states, the end of a run, and what a host may rely on. -/

namespace Sys2Proof.Machine

/-- What every reachable state satisfies: the clauses (b), (c), (d), (e), (f) and (g) of 10_state.md R41, with
(d) and (e) read off the STATUS word; (a) is the type of `lanes`. -/
structure State.Inv (s : State) : Prop where
  rate_and_capacity : rateBytes s.var + capacityBytes s.var = 200
  busy_iff_pending : s.busy = true ↔ s.pend ≠ .none
  phase_code_legal : s.status.extractLsb' 1 2 ≠ 3#2
  variant_code_legal : (s.status.extractLsb' 4 2).toNat ≤ 1
  error_code_legal : (s.status.extractLsb' 8 4).toNat ≤ 6
  final_in_range : ∀ len, s.pend = .final len → len.toNat < rateBytes s.var ∧ s.phase = .absorb
  absorb_in_phase : s.pend = .absorb → s.phase = .absorb

/-- What a finished run is observed by: (S, BLK, VAR, PHASE, ERR, BLOCKS) (70_reset_and_hazards.md R242). -/
structure Observation where
  lanes : Lanes
  blk : BlkWords
  var : Variant
  phase : Phase
  err : Err
  blocks : BitVec 32
deriving DecidableEq, Repr

/-- The observation of a state (70_reset_and_hazards.md R242). -/
def State.observation (s : State) : Observation := ⟨s.lanes, s.blk, s.var, s.phase, s.err, s.blocks⟩

/-- A run has ended: the host's program is at its end and BUSY = 0 (70_reset_and_hazards.md R242). -/
abbrev State.ended (s : State) : Prop := s.host = [] ∧ s.busy = false

/-- A run has ended clean (70_reset_and_hazards.md R242). -/
abbrev State.clean (s : State) : Prop := s.ended ∧ s.err = .none

/-- What a STATUS read must show before a host trusts the digest: BUSY = 0, PHASE = DONE, ERR = 0
(70_reset_and_hazards.md R238; 41_sponge.md R148). -/
abbrev State.digestShown (s : State) : Prop := s.busy = false ∧ s.phase = .done ∧ s.err = .none

/-- The sponge stands after the first n blocks of the padded message: what INIT and each ABSORB of the
digest program establish (41_sponge.md R149, R150). -/
structure State.HasAbsorbed (s : State) (v : Variant) (m : List Byte) (n : Nat) : Prop where
  variant : s.var = v
  phase : s.phase = .absorb
  no_error : s.err = .none
  not_busy : s.busy = false
  lanes : s.lanes = absorbBlocks (pad m (rateBytes v)) (rateBytes v) n
  blocks : s.blocks = BitVec.ofNat 32 n

end Sys2Proof.Machine
end

