-- ==== Sys2Proof/Certificates/Slice0/Obligations.lean ====
section
/-! DEFINITION. The statements for the provers. Each docstring names the rule or the section it comes from.
Statements are about the block's commands, its host transactions, its engine and reset steps, and every step
of the machine; none is about a particular host program. -/

open Sys2Proof Sys2Proof.Machine

/-! ## Encoding -/

/-- The words of 30_encoding.md R90 decode to the commands listed there, and the two illegal words and the
INIT with a reserved VAR raise the codes listed there on an idle, unlocked block. -/
def Obligations.ListedWordsDecodeAsListed : Prop :=
  decode 0x0000000000000001#64 = .ok (.init 0#2) ∧
  decode 0x0000000000010001#64 = .ok (.init 1#2) ∧
  decode 0x0000000000000002#64 = .ok .absorb ∧
  decode 0x0000000000000003#64 = .ok (.final 0#8) ∧
  decode 0x0000000000000303#64 = .ok (.final 3#8) ∧
  decode 0x0000000000008703#64 = .ok (.final 135#8) ∧
  decode 0x0000000000008F03#64 = .ok (.final 143#8) ∧
  decode 0x0000000000000004#64 = .ok .permute ∧
  ∀ s : State, s.busy = false → s.err = .none →
    cmdWrite 0x0000000000000000#64 s = .next { s with err := .illegalCmd } ∧
    cmdWrite 0x0000000000000102#64 s = .next { s with err := .illegalCmd } ∧
    cmdWrite 0x0000000000020001#64 s = .next { s with err := .badVariant }

/-- Decoding and encoding agree in both directions: a word decodes to a command exactly when it is the word of
that command, for every operand value of every command (30_encoding.md R80, R81, R86). -/
def Obligations.DecodeInvertsEncode : Prop :=
  ∀ (w : Word) (i : Instr), decode w = .ok i ↔ w = encode i

/-- A word decodes to some command exactly when it passes R88's check, written here on R88's bit ranges. -/
def Obligations.DecodesExactlyWellFormedWords : Prop :=
  ∀ w : Word, (∃ i, decode w = .ok i) ↔
    ((w.extractLsb 3 0 = 1#4 ∧ w.extractLsb 63 18 = 0#46 ∧ w.extractLsb 15 4 = 0#12) ∨
     (w.extractLsb 3 0 = 2#4 ∧ w.extractLsb 63 4 = 0#60) ∨
     (w.extractLsb 3 0 = 3#4 ∧ w.extractLsb 63 16 = 0#48 ∧ w.extractLsb 7 4 = 0#4) ∨
     (w.extractLsb 3 0 = 4#4 ∧ w.extractLsb 63 4 = 0#60))

/-- R85: a word with an assigned OP and a 1 in a bit R81 says must be zero is ill-formed, and raises
ILLEGAL_CMD on an idle, unlocked block. An ABSORB word with LEN ≠ 0 is one. -/
def Obligations.MustBeZeroBitsAreEnforced : Prop :=
  (∀ (w : Word) (s : State), s.busy = false → s.err = .none →
    ((w.extractLsb 3 0 = 1#4 ∧ (w.extractLsb 63 18 ≠ 0#46 ∨ w.extractLsb 15 4 ≠ 0#12)) ∨
     (w.extractLsb 3 0 = 2#4 ∧ w.extractLsb 63 4 ≠ 0#60) ∨
     (w.extractLsb 3 0 = 3#4 ∧ (w.extractLsb 63 16 ≠ 0#48 ∨ w.extractLsb 7 4 ≠ 0#4)) ∨
     (w.extractLsb 3 0 = 4#4 ∧ w.extractLsb 63 4 ≠ 0#60)) →
    wellFormed w = false ∧ cmdWrite w s = .next { s with err := .illegalCmd }) ∧
  ∀ w : Word, w.extractLsb 3 0 = 2#4 → w.extractLsb 15 8 ≠ 0#8 → wellFormed w = false

/-- R89: a host write to CMD does what the pseudocode `cmd_write` says, for every word and every state.
`specCmdWrite` is that pseudocode, on the word's fields and R88's check; the machine decodes first. -/
def Obligations.CmdWriteFollowsSpecPseudocode : Prop :=
  ∀ (w : Word) (s : State), cmdWrite w s = .next (specCmdWrite w s) ∧
    memWrite 0x00#7 w s = .next (specCmdWrite w s)

/-- R205: of several faults of one CMD write the first in the order decides, and R205's three example words. -/
def Obligations.CommandErrorPriority : Prop :=
  (∀ (w : Word) (s : State), s.busy = true →
    cmdWrite w s = .next { s with err := if s.err = .none then .busyAccess else s.err }) ∧
  (∀ (w : Word) (s : State), s.busy = false → s.err ≠ .none → w ≠ 0x1#64 → w ≠ 0x10001#64 → cmdWrite w s = .next s) ∧
  (∀ (w : Word) (v : Variant) (s : State), s.busy = false →
    ((w = 0x1#64 ∧ v = .sha3_224) ∨ (w = 0x10001#64 ∧ v = .sha3_256)) →
    cmdWrite w s = .next { s with lanes := Vector.replicate 25 0#64, var := v, phase := .absorb, blocks := 0#32,
                                  err := .none }) ∧
  (∀ (w : Word) (s : State), s.busy = false → s.err = .none → wellFormed w = false →
    cmdWrite w s = .next { s with err := .illegalCmd }) ∧
  (∀ (w : Word) (s : State) (code : BitVec 2), s.busy = false → s.err = .none → decode w = .ok (.init code) →
    2 ≤ code.toNat → cmdWrite w s = .next { s with err := .badVariant }) ∧
  (∀ (w : Word) (s : State) (len : BitVec 8), s.busy = false → s.err = .none →
    (decode w = .ok .absorb ∨ decode w = .ok (.final len)) → s.phase ≠ .absorb →
    cmdWrite w s = .next { s with err := .sequence }) ∧
  (∀ (w : Word) (s : State) (len : BitVec 8), s.busy = false → s.err = .none → decode w = .ok (.final len) →
    s.phase = .absorb → rateBytes s.var ≤ len.toNat → cmdWrite w s = .next { s with err := .badLength }) ∧
  (∀ s : State, s.busy = false → s.err = .none → s.phase = .idle →
    cmdWrite 0x000000000000FF13#64 s = .next { s with err := .illegalCmd } ∧
    cmdWrite (encode (.final 200#8)) s = .next { s with err := .sequence } ∧
    cmdWrite 0x0000000000030021#64 s = .next { s with err := .illegalCmd })

/-! ## INIT -/

/-- INIT with VAR 0 or 1 completes in its own CMD write from every idle state, whatever the phase and ERR:
the lanes are 0, VAR is latched, PHASE is ABSORB, BLOCKS and ERR are 0; BLK, BUSY and PEND, and the host, are
as before (41_sponge.md R141, effect; 70_reset_and_hazards.md R232). -/
def Obligations.InitRestartsComputation : Prop :=
  ∀ (code : BitVec 2) (v : Variant) (s : State), s.busy = false →
    ((code = 0#2 ∧ v = .sha3_224) ∨ (code = 1#2 ∧ v = .sha3_256)) →
    ∃ t, exec (.init code) s = .next t ∧
      (∀ i : Fin 25, t.lanes[i.val] = 0#64) ∧ t.var = v ∧ t.phase = .absorb ∧ t.blocks = 0#32 ∧ t.err = .none ∧
      t.status = BitVec.ofNat 64 (2 + 16 * code.toNat) ∧
      t.blk = s.blk ∧ t.busy = false ∧ t.pend = s.pend ∧
      t.host = s.host ∧ t.sched = s.sched ∧ t.replies = s.replies ∧ t.draws = s.draws

/-! ## ABSORB, FINAL, PERMUTE: acceptance and completion -/

/-- ABSORB runs: accepted in phase ABSORB on an idle, unlocked block, it sets PEND and BUSY and nothing else,
and the engine step that follows permutes the lanes with the block's words XORed into the rate lanes, counts
the block, and clears PEND and BUSY; everything else is as before (41_sponge.md R142, R143; 10_state.md R23). -/
def Obligations.AbsorbRunsToCompletion : Prop :=
  ∀ s : State, s.busy = false → s.err = .none → s.phase = .absorb →
    exec .absorb s = .next { s with pend := .absorb, busy := true } ∧
    ∀ turns : List Agent, ∃ x : Lanes,
      (∀ i : Fin 25, x[i.val] = if i.val < rateBytes s.var / 8 then s.lanes[i.val] ^^^ (s.blk[i.val]?).getD 0#64
        else s.lanes[i.val]) ∧
      step { s with pend := .absorb, busy := true, sched := .engine :: turns } =
        .next { s with lanes := keccakF x, blocks := BitVec.ofNat 32 (s.blocks.toNat + 1), pend := .none, sched := turns }

/-- FINAL runs: accepted in phase ABSORB with LEN below the rate, it sets PEND and BUSY and nothing else, and
the engine step that follows XORs in the first LEN bytes of BLK and the pad bytes, byte by byte as the table of
pad positions has them, permutes, counts the block, sets PHASE to DONE and clears PEND and BUSY; everything
else is as before (42_padding_rate.md R175, R176). -/
def Obligations.FinalRunsToCompletion : Prop :=
  ∀ (len : BitVec 8) (s : State), s.busy = false → s.err = .none → s.phase = .absorb → len.toNat < rateBytes s.var →
    exec (.final len) s = .next { s with pend := .final len, busy := true } ∧
    ∀ turns : List Agent, ∃ x : Lanes,
      (∀ j : Fin 200, stateByte x j = stateByte s.lanes j ^^^
        (if j.val < len.toNat then byteOf ((s.blk[j.val / 8]?).getD 0#64) (j.val % 8)
         else if j.val = len.toNat ∧ len.toNat + 1 = rateBytes s.var then 0x86#8
         else if j.val = len.toNat then 0x06#8
         else if j.val + 1 = rateBytes s.var then 0x80#8
         else 0x00#8)) ∧
      step { s with pend := .final len, busy := true, sched := .engine :: turns } =
        .next { s with lanes := keccakF x, blocks := BitVec.ofNat 32 (s.blocks.toNat + 1), phase := .done,
                       pend := .none, sched := turns }

/-- PERMUTE runs: accepted in every phase on an idle, unlocked block, it sets PEND and BUSY and nothing else,
and the engine step that follows permutes the lanes and clears PEND and BUSY; PHASE, VAR, BLOCKS, ERR and BLK
are as before (40_permutation.md R120, acceptance and completion). -/
def Obligations.PermuteRunsToCompletion : Prop :=
  ∀ s : State, s.busy = false → s.err = .none →
    exec .permute s = .next { s with pend := .permute, busy := true } ∧
    ∀ turns : List Agent,
      step { s with pend := .permute, busy := true, sched := .engine :: turns } =
        .next { s with lanes := keccakF s.lanes, pend := .none, sched := turns }

/-- Where the commands are refused, and that a refusal changes nothing but ERR: BUSY_ACCESS while busy, even for
INIT, which aborts nothing; every command but a valid INIT dropped under the error lock; SEQUENCE for ABSORB and
FINAL outside phase ABSORB, whatever LEN is; BAD_LENGTH for FINAL in phase ABSORB when LEN is not below the latched
variant's rate (so FINAL 140 under SHA3-256); BAD_VARIANT for INIT with VAR 2 or 3 (the exceptions of 41_sponge.md
R141, R142, 42_padding_rate.md R176, R177 and 40_permutation.md R120). -/
def Obligations.RefusedCommandsChangeOnlyErr : Prop :=
  (∀ (i : Instr) (s : State), s.busy = true →
    exec i s = .next { s with err := if s.err = .none then .busyAccess else s.err }) ∧
  (∀ (i : Instr) (s : State), s.busy = false → s.err ≠ .none → i ≠ .init 0#2 → i ≠ .init 1#2 → exec i s = .next s) ∧
  (∀ (code : BitVec 2) (s : State), s.busy = false → s.err = .none → 2 ≤ code.toNat →
    exec (.init code) s = .next { s with err := .badVariant }) ∧
  (∀ (len : BitVec 8) (s : State), s.busy = false → s.err = .none → s.phase ≠ .absorb →
    exec .absorb s = .next { s with err := .sequence } ∧ exec (.final len) s = .next { s with err := .sequence }) ∧
  (∀ (len : BitVec 8) (s : State), s.busy = false → s.err = .none → s.phase = .absorb → rateBytes s.var ≤ len.toNat →
    exec (.final len) s = .next { s with err := .badLength }) ∧
  ∀ s : State, s.busy = false → s.err = .none → s.phase = .absorb → s.var = .sha3_256 →
    exec (.final 140#8) s = .next { s with err := .badLength }

/-! ## The permutation -/

/-- `ROTL(a, n)[i] = a[(i − n) mod 64]`, and ROTL by 0 changes nothing (00_scope.md R11; that "left" is toward
higher bits is the spec's general knowledge). -/
def Obligations.RotlMovesBitsUp : Prop :=
  (∀ (a : Word) (n i : Nat), n < 64 → i < 64 → (rotl a n).getLsbD i = a.getLsbD ((i + 64 - n) % 64)) ∧
  ∀ a : Word, rotl a 0 = a

/-- R102, θ, on linear indices x + 5·y with coordinates reduced modulo 5. -/
def Obligations.ThetaFormula : Prop :=
  ∀ (a : Lanes) (C D : Nat → Word),
    (∀ x, x < 5 → C x = (a[x]?).getD 0#64 ^^^ (a[x + 5]?).getD 0#64 ^^^ (a[x + 10]?).getD 0#64 ^^^
      (a[x + 15]?).getD 0#64 ^^^ (a[x + 20]?).getD 0#64) →
    (∀ x, x < 5 → D x = C ((x + 4) % 5) ^^^ rotl (C ((x + 1) % 5)) 1) →
    ∀ x y, x < 5 → y < 5 → (theta a)[x + 5 * y]? = some ((a[x + 5 * y]?).getD 0#64 ^^^ D x)

/-- R103: each lane is rotated left by its offset in the table, and the origin lane is not rotated. -/
def Obligations.RhoRotatesEachLane : Prop :=
  ∀ a : Lanes, (∀ i : Fin 25, (rho a)[i.val] = rotl a[i.val] rhoOffsets[i.val]) ∧ (rho a)[0] = a[0]

/-- R104: the offsets by linear index are the listed ones, and the walk generates the same table. -/
def Obligations.RotationOffsetsAreTheWalk : Prop :=
  rhoOffsets.toList =
    [0, 1, 62, 28, 27, 36, 44, 6, 55, 20, 3, 10, 43, 25, 39, 41, 45, 15, 21, 8, 18, 2, 61, 56, 14] ∧
  walkOffsets = rhoOffsets

/-- R105: the lane at (x,y) moves to (y, (2x + 3y) mod 5), and R105's two examples. -/
def Obligations.PiMovesLanes : Prop :=
  ∀ a : Lanes,
    (∀ x y, x < 5 → y < 5 → (piStep a)[y + 5 * ((2 * x + 3 * y) % 5)]? = a[x + 5 * y]?) ∧
    (piStep a)[10] = a[1] ∧ (piStep a)[0] = a[0]

/-- R106 and R107: the constants are the listed ones, two pairs of which are equal, and they are those the
recurrence generates. -/
def Obligations.RoundConstantsAreGenerated : Prop :=
  roundConstants.toList =
    [0x0000000000000001#64, 0x0000000000008082#64, 0x800000000000808A#64, 0x8000000080008000#64, 0x000000000000808B#64,
     0x0000000080000001#64, 0x8000000080008081#64, 0x8000000000008009#64, 0x000000000000008A#64, 0x0000000000000088#64,
     0x0000000080008009#64, 0x000000008000000A#64, 0x000000008000808B#64, 0x800000000000008B#64, 0x8000000000008089#64,
     0x8000000000008003#64, 0x8000000000008002#64, 0x8000000000000080#64, 0x000000000000800A#64, 0x800000008000000A#64,
     0x8000000080008081#64, 0x8000000000008080#64, 0x0000000080000001#64, 0x8000000080008008#64] ∧
  roundConstants[5] = roundConstants[22] ∧ roundConstants[6] = roundConstants[20] ∧
  ∀ i : Fin 24, roundConstants[i.val] = generatedConstant i.val

/-- R108, χ, on linear indices with coordinates reduced modulo 5. -/
def Obligations.ChiFormula : Prop :=
  ∀ (a : Lanes) (x y : Nat), x < 5 → y < 5 → (chi a)[x + 5 * y]? =
    some ((a[x + 5 * y]?).getD 0#64 ^^^
      (~~~((a[(x + 1) % 5 + 5 * y]?).getD 0#64) &&& (a[(x + 2) % 5 + 5 * y]?).getD 0#64))

/-- R109, ι: lane 0 takes the round constant and every other lane stays. -/
def Obligations.IotaTouchesOnlyOrigin : Prop :=
  ∀ (a : Lanes) (i : Fin 24), (iota a i)[0] = a[0] ^^^ roundConstants[i.val] ∧
    ∀ k : Fin 25, k.val ≠ 0 → (iota a i)[k.val] = a[k.val]

/-- R101 and R110: the permutation is 24 rounds in increasing order of their index, each round θ, ρ, π, χ, ι in
that order. -/
def Obligations.PermutationRunsRoundsInOrder : Prop :=
  ∀ a : Lanes, ∃ A : Nat → Lanes, A 0 = a ∧
    (∀ (i : Nat) (hi : i < 24), A (i + 1) = iota (chi (piStep (rho (theta (A i))))) ⟨i, hi⟩) ∧ keccakF a = A 24

/-- The consequences the spec draws from the step mappings (marked derived in 40_permutation.md R102, R105, R108,
R109, R110): θ of the unit state; π read from the target; χ keeps a row of zeros or of all-ones lanes; round 0 of
the zero state leaves 1 in lane 0; two lanes of `KeccakF(0)`. -/
def Obligations.StepMappingExamples : Prop :=
  (∀ i : Fin 25, (theta ((Vector.replicate 25 0#64).set 0 1#64))[i.val] =
    if i.val = 0 then 1#64 else if i.val % 5 = 1 then 1#64 else if i.val % 5 = 4 then 2#64 else 0#64) ∧
  (∀ (a : Lanes) (x y : Nat), x < 5 → y < 5 → (piStep a)[x + 5 * y]? = a[(x + 3 * y) % 5 + 5 * x]?) ∧
  (∀ (a : Lanes) (y : Fin 5) (w : Word), w = 0#64 ∨ w = 0xFFFFFFFFFFFFFFFF#64 →
    (∀ x : Fin 5, laneXY a x y = w) → ∀ x : Fin 5, laneXY (chi a) x y = w) ∧
  rnd (Vector.replicate 25 0#64) 0 = (Vector.replicate 25 0#64).set 0 1#64 ∧
  (keccakF (Vector.replicate 25 0#64))[0] = 0xF1258F7940E1DDE7#64 ∧
  (keccakF (Vector.replicate 25 0#64))[24] = 0xEAF1FF7B5CECA249#64

/-- θ and χ are bitwise: bit z of χ's lanes depends only on bit z of the input lanes, and bit z of θ's only on
bits z and z − 1 mod 64 (40_permutation.md R113). -/
def Obligations.ThetaAndChiAreBitwise : Prop :=
  (∀ (a b : Lanes) (z : Nat), z < 64 → (∀ i : Fin 25, a[i.val].getLsbD z = b[i.val].getLsbD z) →
    ∀ i : Fin 25, (chi a)[i.val].getLsbD z = (chi b)[i.val].getLsbD z) ∧
  (∀ (a b : Lanes) (z : Nat), z < 64 →
    (∀ i : Fin 25, a[i.val].getLsbD z = b[i.val].getLsbD z ∧
      a[i.val].getLsbD ((z + 63) % 64) = b[i.val].getLsbD ((z + 63) % 64)) →
    ∀ i : Fin 25, (theta a)[i.val].getLsbD z = (theta b)[i.val].getLsbD z)

/-! ## Bytes, rate and padding -/

/-- R22: the byte view and the lanes are one state: byte 8·i + m is bits [8·m + 7 : 8·m] of lane i, lanes built
from a byte view have that view, and the view of the lanes gives the lanes back. -/
def Obligations.ByteViewIsTheState : Prop :=
  (∀ (a : Lanes) (i : Fin 25) (m : Fin 8),
    stateByte a ⟨8 * i.val + m.val, by omega⟩ = BitVec.ofNat 8 (a[i.val].toNat / 2 ^ (8 * m.val))) ∧
  (∀ (f : Fin 200 → Byte) (j : Fin 200), stateByte (lanesOfBytes f) j = f j) ∧
  ∀ a : Lanes, lanesOfBytes (stateByte a) = a

/-- R170's table, and the facts of R171: rate + capacity = 200, the rate covers the digest, and the rate is a
whole number of lanes. -/
def Obligations.VariantTable : Prop :=
  rateBytes .sha3_224 = 144 ∧ capacityBytes .sha3_224 = 56 ∧ outBytes .sha3_224 = 28 ∧
  rateBytes .sha3_256 = 136 ∧ capacityBytes .sha3_256 = 64 ∧ outBytes .sha3_256 = 32 ∧
  ∀ v : Variant, rateBytes v + capacityBytes v = 200 ∧ outBytes v ≤ rateBytes v ∧ rateBytes v % 8 = 0

/-- R172: the padded buffer is the message, then a first pad byte 0x06 (0x86 when it is also the last), zero
bytes, and a final 0x80; its length is the smallest multiple of the rate greater than the message's length, and
a message whose length is a multiple of the rate gets a whole block more. -/
def Obligations.PaddingIsPad10Star1 : Prop :=
  ∀ (m : List Byte) (r : Nat), 0 < r →
    (pad m r).length % r = 0 ∧ m.length < (pad m r).length ∧
    (∀ n, n % r = 0 → m.length < n → (pad m r).length ≤ n) ∧
    (m.length % r = 0 → (pad m r).length = m.length + r) ∧
    (pad m r).take m.length = m ∧
    ∀ j, j < (pad m r).length → m.length ≤ j →
      (pad m r)[j]? = some
        (if j = m.length ∧ j + 1 = (pad m r).length then 0x86#8
         else if j = m.length then 0x06#8
         else if j + 1 = (pad m r).length then 0x80#8
         else 0x00#8)

/-- The number of blocks of a padded message is floor(L / r) + 1, and the digest function absorbs them all
(42_padding_rate.md R178; 41_sponge.md R140). -/
def Obligations.PaddedBlockCount : Prop :=
  ∀ (v : Variant) (m : List Byte),
    (pad m (rateBytes v)).length = (m.length / rateBytes v + 1) * rateBytes v ∧
    sha3 v m = stateBytes (absorbBlocks (pad m (rateBytes v)) (rateBytes v) (m.length / rateBytes v + 1)) (outBytes v)

/-- The final block of FINAL k, position by position, for every k below the rate: the message bytes, 0x06 (0x86
when k is the rate less 1), zeros, 0x80 (42_padding_rate.md R174, R175). -/
def Obligations.FinalBlockLayout : Prop :=
  ∀ (b : BlkWords) (v : Variant) (k : Nat), k < rateBytes v →
    (finalBlockBytes b v k).length = rateBytes v ∧
    ∀ j : Fin 144, j.val < rateBytes v → (finalBlockBytes b v k)[j.val]? = some
      (if j.val < k then blkByte b j
       else if j.val = k ∧ k + 1 = rateBytes v then 0x86#8
       else if j.val = k then 0x06#8
       else if j.val + 1 = rateBytes v then 0x80#8
       else 0x00#8)

/-- R143: absorbing a block of rate_bytes bytes XORs byte j of it into state byte j and permutes the whole
state; the capacity bytes enter the permutation as they were (R144). -/
def Obligations.AbsorbXorsIntoRatePart : Prop :=
  ∀ (a : Lanes) (v : Variant) (block : List Byte), block.length = rateBytes v →
    ∃ x : Lanes, absorb a block = keccakF x ∧
      ∀ j : Fin 200, (∀ h : j.val < block.length, stateByte x j = stateByte a j ^^^ block[j.val]) ∧
        (rateBytes v ≤ j.val → stateByte x j = stateByte a j)

/-- FINAL reads no BLK byte at index LEN or above: two states that differ only there complete it with the same
lanes, PHASE and BLOCKS (42_padding_rate.md R174; 70_reset_and_hazards.md R236). -/
def Obligations.FinalIgnoresBytesPastLen : Prop :=
  ∀ (s : State) (b : BlkWords) (len : BitVec 8), s.pend = .final len → len.toNat < rateBytes s.var →
    (∀ j : Fin 144, j.val < len.toNat → blkByte b j = blkByte s.blk j) →
    engineStep { s with blk := b } = { engineStep s with blk := b }

/-- ABSORB reads no BLK word past the rate: under SHA3-256 BLK[17] does not matter, under SHA3-224 every word
is read (20_memory.md R55; 10_state.md R26). -/
def Obligations.AbsorbIgnoresWordsPastRate : Prop :=
  ∀ (s : State) (b : BlkWords), s.pend = .absorb →
    (∀ j : Fin 18, j.val < rateBytes s.var / 8 → b[j.val] = s.blk[j.val]) →
    engineStep { s with blk := b } = { engineStep s with blk := b }

/-! ## The digest, command by command -/

/-- An accepted INIT leaves the sponge before the first block of any message (41_sponge.md R150, step 1). -/
def Obligations.InitStartsDigest : Prop :=
  ∀ (v : Variant) (m : List Byte) (s : State), s.busy = false →
    ∃ t, exec (initOf v) s = .next t ∧ t.HasAbsorbed v m 0

/-- With n blocks of the padded message absorbed and message block n in BLK, ABSORB and the engine step leave
n + 1 blocks absorbed (41_sponge.md R149, R150, derived there). -/
def Obligations.AbsorbExtendsDigest : Prop :=
  ∀ (v : Variant) (m : List Byte) (n : Nat) (s : State) (turns : List Agent),
    s.HasAbsorbed v m n → (n + 1) * rateBytes v ≤ m.length →
    blkBytes s.blk (rateBytes v) = blockAt m (rateBytes v) n →
    ∃ t u, exec .absorb s = .next t ∧ step { t with sched := .engine :: turns } = .next u ∧
      u.HasAbsorbed v m (n + 1)

/-- With all full blocks of the message absorbed and its last bytes in BLK, FINAL and the engine step leave
the digest `SHA3(V, M)` in the first out_bytes bytes of the state, with PHASE = DONE, ERR and BUSY 0, and
BLOCKS the number of blocks modulo 2^32 (41_sponge.md R149, R150, derived there). -/
def Obligations.FinalYieldsDigest : Prop :=
  ∀ (v : Variant) (m : List Byte) (s : State) (turns : List Agent),
    s.HasAbsorbed v m (m.length / rateBytes v) →
    blkBytes s.blk (m.length % rateBytes v) = m.drop (m.length / rateBytes v * rateBytes v) →
    ∃ t u, exec (.final (BitVec.ofNat 8 (m.length % rateBytes v))) s = .next t ∧
      step { t with sched := .engine :: turns } = .next u ∧
      stateBytes u.lanes (outBytes v) = sha3 v m ∧ u.digestShown ∧ u.var = v ∧
      u.blocks = BitVec.ofNat 32 (m.length / rateBytes v + 1)

/-- The four words read from STATE[0..3] on an idle block unpack to the digest bytes of the state: 32 bytes for
SHA3-256, 28 for SHA3-224, and every digest has its variant's length (41_sponge.md R146, R147, R151). -/
def Obligations.DigestReadOut : Prop :=
  (∀ (v : Variant) (s : State), s.busy = false →
    digestOfWords v [memRead 0x40#7 s, memRead 0x41#7 s, memRead 0x42#7 s, memRead 0x43#7 s] =
      stateBytes s.lanes (outBytes v)) ∧
  ∀ (v : Variant) (m : List Byte), (sha3 v m).length = outBytes v

/-- The digests of the empty message and of "abc" are the corrected standard values (95_test_vectors.md V-S2,
V-S3; 90_conflicts.md C2). -/
def Obligations.KnownDigests : Prop :=
  sha3 .sha3_256 [] =
    [0xa7#8, 0xff#8, 0xc6#8, 0xf8#8, 0xbf#8, 0x1e#8, 0xd7#8, 0x66#8, 0x51#8, 0xc1#8, 0x47#8, 0x56#8, 0xa0#8, 0x61#8,
     0xd6#8, 0x62#8, 0xf5#8, 0x80#8, 0xff#8, 0x4d#8, 0xe4#8, 0x3b#8, 0x49#8, 0xfa#8, 0x82#8, 0xd8#8, 0x0a#8, 0x4b#8,
     0x80#8, 0xf8#8, 0x43#8, 0x4a#8] ∧
  sha3 .sha3_224 [0x61#8, 0x62#8, 0x63#8] =
    [0xe6#8, 0x42#8, 0x82#8, 0x4c#8, 0x3f#8, 0x8c#8, 0xf2#8, 0x4a#8, 0xd0#8, 0x92#8, 0x34#8, 0xee#8, 0x7d#8, 0x3c#8,
     0x76#8, 0x6f#8, 0xc9#8, 0xa3#8, 0xa5#8, 0x16#8, 0x8d#8, 0x0c#8, 0x94#8, 0xad#8, 0x73#8, 0xb4#8, 0x6f#8, 0xdf#8]

/-! ## The host window -/

/-- R34: STATUS as a number, its fields bit by bit, its reserved bits 0, and only legal codes ever read. -/
def Obligations.StatusWordLayout : Prop :=
  ∀ s : State,
    s.status.toNat = s.blocks.toNat * 2 ^ 32 + s.err.code.toNat * 2 ^ 8 + s.var.code.toNat * 2 ^ 4 +
      s.phase.code.toNat * 2 ^ 1 + s.busy.toNat ∧
    s.status.extractLsb 0 0 = BitVec.ofBool s.busy ∧ s.status.extractLsb 2 1 = s.phase.code ∧
    s.status.extractLsb 3 3 = 0#1 ∧ s.status.extractLsb 5 4 = s.var.code ∧ s.status.extractLsb 7 6 = 0#2 ∧
    s.status.extractLsb 11 8 = s.err.code ∧ s.status.extractLsb 31 12 = 0#20 ∧ s.status.extractLsb 63 32 = s.blocks ∧
    s.phase.code ≠ 3#2 ∧ s.var.code.toNat ≤ 1 ∧ s.err.code.toNat ≤ 6

/-- R56 and R57: what a host read of each word index returns, and that it changes nothing of the block; a read
of STATE while busy returns the next free value, whatever the lanes hold. -/
def Obligations.ReadTransactions : Prop :=
  ∀ (widx : WordIndex) (s : State) (rest : List HostOp), s.host = .rd widx :: rest →
    ∃ value, hostMove (.rd widx) s = .next { s with
        host := rest
        replies := value :: s.replies
        draws := if 0x40 ≤ widx.toNat ∧ widx.toNat ≤ 0x58 ∧ s.busy = true then s.draws + 1 else s.draws } ∧
      (widx.toNat = 0x00 → value = 0#64) ∧
      (widx.toNat = 0x01 → value = s.status) ∧
      (0x10 ≤ widx.toNat → widx.toNat ≤ 0x21 → some value = s.blk[widx.toNat - 0x10]?) ∧
      (0x40 ≤ widx.toNat → widx.toNat ≤ 0x58 → s.busy = false → some value = s.lanes[widx.toNat - 0x40]?) ∧
      (0x40 ≤ widx.toNat → widx.toNat ≤ 0x58 → s.busy = true → value = Config.draw s.draws) ∧
      ((0x02 ≤ widx.toNat ∧ widx.toNat ≤ 0x0F) ∨ (0x22 ≤ widx.toNat ∧ widx.toNat ≤ 0x3F) ∨ 0x59 ≤ widx.toNat →
        value = 0#64)

/-- R60: what a host write to each word index does, on every state. A write to CMD is the command; a write to
BLK[j] or lane(i) replaces that word and nothing else when BUSY = 0 and is BUSY_ACCESS when BUSY = 1; any other
write is BAD_ADDRESS. -/
def Obligations.WriteTransactions : Prop :=
  ∀ (widx : WordIndex) (v : Word) (s : State),
    (widx.toNat = 0x00 → memWrite widx v s = cmdWrite v s) ∧
    (∀ j : Fin 18, widx.toNat = 0x10 + j.val → memWrite widx v s = .next
      (if s.busy = true then { s with err := if s.err = .none then .busyAccess else s.err }
       else { s with blk := s.blk.set j.val v })) ∧
    (∀ i : Fin 25, widx.toNat = 0x40 + i.val → memWrite widx v s = .next
      (if s.busy = true then { s with err := if s.err = .none then .busyAccess else s.err }
       else { s with lanes := s.lanes.set i.val v })) ∧
    (widx.toNat = 0x01 ∨ (0x02 ≤ widx.toNat ∧ widx.toNat ≤ 0x0F) ∨ (0x22 ≤ widx.toNat ∧ widx.toNat ≤ 0x3F) ∨
        0x59 ≤ widx.toNat →
      memWrite widx v s = .next { s with err := if s.err = .none then .badAddress else s.err })

/-- R61: while BUSY = 1 a write to CMD, BLK or STATE is dropped and raises BUSY_ACCESS, which ERR takes only from
0, and the pending command completes as it would have. -/
def Obligations.BusyWritesAreDropped : Prop :=
  ∀ (widx : WordIndex) (v : Word) (s : State), s.busy = true →
    widx.toNat = 0x00 ∨ (0x10 ≤ widx.toNat ∧ widx.toNat ≤ 0x21) ∨ (0x40 ≤ widx.toNat ∧ widx.toNat ≤ 0x58) →
    ∃ t, memWrite widx v s = .next t ∧ t = { s with err := if s.err = .none then .busyAccess else s.err } ∧
      engineStep t = { engineStep s with err := t.err }

/-- A word of BLK or STATE written on an idle block reads back, and a read of every other index returns what
it did before (20_memory.md R58, R60, R54). -/
def Obligations.WrittenWordReadsBack : Prop :=
  ∀ (widx : WordIndex) (v : Word) (s : State), s.busy = false →
    (0x10 ≤ widx.toNat ∧ widx.toNat ≤ 0x21) ∨ (0x40 ≤ widx.toNat ∧ widx.toNat ≤ 0x58) →
    ∃ t, memWrite widx v s = .next t ∧ memRead widx t = v ∧
      ∀ other : WordIndex, other ≠ widx → memRead other t = memRead other s

/-- The bytes a host write stores: STATE[i] takes state bytes 8·i to 8·i + 7 and BLK[j] buffer bytes 8·j to
8·j + 7, byte m from bits [8·m + 7 : 8·m] of the word; every other byte of both reads as before, and no other
register changes (20_memory.md R50, R60). -/
def Obligations.HostWritesStoreOnlyTheirBytes : Prop :=
  (∀ (i : Fin 25) (v : Word) (s : State), s.busy = false →
    ∃ t, memWrite (BitVec.ofNat 7 (0x40 + i.val)) v s = .next t ∧ t = { s with lanes := t.lanes } ∧
      ∀ k : Fin 200, stateByte t.lanes k =
        if 8 * i.val ≤ k.val ∧ k.val < 8 * i.val + 8 then byteOf v (k.val - 8 * i.val) else stateByte s.lanes k) ∧
  (∀ (j : Fin 18) (v : Word) (s : State), s.busy = false →
    ∃ t, memWrite (BitVec.ofNat 7 (0x10 + j.val)) v s = .next t ∧ t = { s with blk := t.blk } ∧
      ∀ k : Fin 144, blkByte t.blk k =
        if 8 * j.val ≤ k.val ∧ k.val < 8 * j.val + 8 then byteOf v (k.val - 8 * j.val) else blkByte s.blk k)

/-! ## Errors -/

/-- R201: an operation of the host that puts an error in ERR is a write, found ERR at 0, and changes nothing
else; so reads and polls never raise. -/
def Obligations.ErrorRecordsOnlyItsCode : Prop :=
  ∀ (op : HostOp) (s t : State), hostMove op s = .next t → t.err ≠ s.err → t.err ≠ .none →
    s.err = .none ∧ t = { s with host := s.host.tail, err := t.err } ∧ ∃ widx v, op = .wr widx v

/-- R203: under the error lock every CMD write but a well-formed INIT with VAR ≤ 1 changes nothing, that INIT
clears ERR, writes to BLK and STATE still take effect while BUSY = 0, and no step takes a locked block to DONE
with ERR = 0. -/
def Obligations.ErrorLock : Prop :=
  ∀ s : State, s.err ≠ .none →
    (∀ w : Word, w ≠ 0x0000000000000001#64 → w ≠ 0x0000000000010001#64 → memWrite 0x00#7 w s = .next s) ∧
    (∀ (w : Word) (v : Variant), s.busy = false →
      ((w = 0x0000000000000001#64 ∧ v = .sha3_224) ∨ (w = 0x0000000000010001#64 ∧ v = .sha3_256)) →
      memWrite 0x00#7 w s = .next { s with lanes := Vector.replicate 25 0#64, var := v, phase := .absorb,
                                           blocks := 0#32, err := .none }) ∧
    (∀ (j : Fin 18) (v : Word), s.busy = false →
      memWrite (BitVec.ofNat 7 (0x10 + j.val)) v s = .next { s with blk := s.blk.set j.val v }) ∧
    (∀ (i : Fin 25) (v : Word), s.busy = false →
      memWrite (BitVec.ofNat 7 (0x40 + i.val)) v s = .next { s with lanes := s.lanes.set i.val v }) ∧
    (∀ t, step s = .next t → t.phase = .done → t.err = s.err)

/-- R204: an error code stays as it is over every step but an accepted INIT and reset, and both of these clear
it; so a later error never replaces the first. An error raised while BUSY = 1 does not stop the pending command,
and ERR stays set over its completion. -/
def Obligations.ErrorClearedOnlyByInitOrReset : Prop :=
  (∀ s t : State, step s = .next t → s.err ≠ .none →
    t.err = (if s.nextMove = .reset ∨ (s.busy = false ∧ (s.nextMove = .host (.wr 0x00#7 0x0000000000000001#64) ∨
      s.nextMove = .host (.wr 0x00#7 0x0000000000010001#64))) then .none else s.err)) ∧
  ∀ (widx : WordIndex) (v : Word) (s t : State), s.busy = true → memWrite widx v s = .next t →
    (t.err = .busyAccess ∨ t.err = .badAddress ∨ t.err = s.err) ∧ engineStep t = { engineStep s with err := t.err }

/-! ## Every step of the machine -/

/-- Every step answers a next state: no command, transaction, engine step or reset stops the machine
(60_exceptions.md R202, R208; 30_encoding.md R87). -/
def Obligations.EveryStepAnswersNext : Prop :=
  ∀ s : State, ∃ t, step s = .next t

/-- When the host's turn comes and its operation writes to CMD a word that decodes to the command i, the step
is exec of i, with the turn and the operation taken off; a word placed by withFetchWord runs as the very next
step (20_memory.md R63; the schedule is the model's choice, notes/assumptions/1.md and 2.md). -/
def Obligations.StepRunsDecodedCommand : Prop :=
  (∀ (s : State) (w : Word) (i : Instr) (ops : List HostOp), s.host = .wr 0x00#7 w :: ops → decode w = .ok i →
    (∀ turns, s.sched = .host :: turns → step s = exec i { s with host := ops, sched := turns }) ∧
    (s.sched = [] → s.busy = false → step s = exec i { s with host := ops })) ∧
  ∀ (s : State) (w : Nat) (i : Instr), decodeTableWord 64 w = some i → step (s.withFetchWord 64 w) = exec i s

/-- R31: the engine step. It is enabled exactly when BUSY = 1; by PEND it absorbs a block, finishes with LEN, or
permutes; it clears PEND and BUSY; and it reads neither ERR nor the host's transactions. -/
def Obligations.EngineStepCompletesPending : Prop :=
  (∀ s : State, s.busy = false → s.nextMove ≠ .engine) ∧
  (∀ (s : State) (turns : List Agent), s.busy = true → s.sched = .engine :: turns →
    step s = .next (engineStep { s with sched := turns })) ∧
  (∀ s : State, s.pend = .absorb → engineStep s =
    { s with lanes := absorb s.lanes (blkBytes s.blk (rateBytes s.var)),
             blocks := BitVec.ofNat 32 (s.blocks.toNat + 1), pend := .none, busy := false }) ∧
  (∀ (s : State) (len : BitVec 8), s.pend = .final len → engineStep s =
    { s with lanes := absorb s.lanes (finalBlockBytes s.blk s.var len.toNat),
             blocks := BitVec.ofNat 32 (s.blocks.toNat + 1), phase := .done, pend := .none, busy := false }) ∧
  (∀ s : State, s.pend = .permute → engineStep s =
    { s with lanes := keccakF s.lanes, pend := .none, busy := false }) ∧
  ∀ (s : State) (e : Err) (ops : List HostOp) (replies : List Word) (n : Nat),
    engineStep { s with err := e, host := ops, replies := replies, draws := n } =
      { engineStep s with err := e, host := ops, replies := replies, draws := n }

/-- R39: every register of the block after reset, and so STATUS. -/
def Obligations.ResetValues : Prop :=
  (∀ i : Fin 25, State.reset.lanes[i.val] = 0#64) ∧ (∀ j : Fin 18, State.reset.blk[j.val] = 0#64) ∧
  State.reset.var = .sha3_224 ∧ State.reset.phase = .idle ∧ State.reset.busy = false ∧ State.reset.pend = .none ∧
  State.reset.err = .none ∧ State.reset.blocks = 0#32 ∧ State.reset.status = 0#64

/-- R230: reset can come at any turn, and sets every register of the block to its reset value, so that a pending
command is abandoned. -/
def Obligations.ResetAtAnyTurn : Prop :=
  ∀ (s : State) (turns : List Agent), s.sched = .reset :: turns → ∃ t, step s = .next t ∧
    t.observation = State.reset.observation ∧ t.busy = false ∧ t.pend = .none ∧ t.sched = turns

/-- Only an accepted INIT and reset write VAR (10_state.md R25). -/
def Obligations.VarWrittenOnlyByInitOrReset : Prop :=
  ∀ s t : State, step s = .next t → t.var ≠ s.var →
    (s.nextMove = .reset ∧ t.var = .sha3_224) ∨
    (s.busy = false ∧ t.var = .sha3_224 ∧ s.nextMove = .host (.wr 0x00#7 0x0000000000000001#64)) ∨
    (s.busy = false ∧ t.var = .sha3_256 ∧ s.nextMove = .host (.wr 0x00#7 0x0000000000010001#64))

/-- The transitions of PHASE are those of 10_state.md R27: reset to IDLE, an accepted INIT to ABSORB from any
phase, and the completion of FINAL from ABSORB to DONE, in every state that meets the invariant. -/
def Obligations.PhaseTransitions : Prop :=
  ∀ s t : State, s.Inv → step s = .next t → t.phase ≠ s.phase →
    (s.nextMove = .reset ∧ t.phase = .idle) ∨
    (t.phase = .absorb ∧ s.busy = false ∧ ∃ w, (w = 0x0000000000000001#64 ∨ w = 0x0000000000010001#64) ∧
      s.nextMove = .host (.wr 0x00#7 w)) ∨
    (s.nextMove = .engine ∧ (∃ len, s.pend = .final len) ∧ s.phase = .absorb ∧ t.phase = .done)

/-- The lanes change only by reset, INIT, a host write to STATE on an idle block, or the engine step
(10_state.md R24); BLK changes only by reset or a host write to BLK on an idle block (10_state.md R26). -/
def Obligations.LanesAndBufferWriters : Prop :=
  ∀ s t : State, step s = .next t →
    (t.lanes ≠ s.lanes → s.nextMove = .reset ∨ (s.nextMove = .engine ∧ s.busy = true) ∨
      (s.busy = false ∧ ∃ widx v, s.nextMove = .host (.wr widx v) ∧
        ((widx = 0x00#7 ∧ (v = 0x0000000000000001#64 ∨ v = 0x0000000000010001#64)) ∨
         ∃ i : Fin 25, widx.toNat = 0x40 + i.val ∧ t.lanes = s.lanes.set i.val v))) ∧
    (t.blk ≠ s.blk → s.nextMove = .reset ∨
      (s.busy = false ∧ ∃ widx v, s.nextMove = .host (.wr widx v) ∧
        ∃ j : Fin 18, widx.toNat = 0x10 + j.val ∧ t.blk = s.blk.set j.val v))

/-- BLOCKS changes only by INIT and reset, which clear it, and by the completion of ABSORB or FINAL, which adds
1 modulo 2^32 (10_state.md R32; 60_exceptions.md R210). -/
def Obligations.BlocksCounterWriters : Prop :=
  ∀ s t : State, step s = .next t → t.blocks ≠ s.blocks →
    (t.blocks = 0#32 ∧ (s.nextMove = .reset ∨ (s.busy = false ∧ ∃ w, (w = 0x0000000000000001#64 ∨
      w = 0x0000000000010001#64) ∧ s.nextMove = .host (.wr 0x00#7 w)))) ∨
    (s.nextMove = .engine ∧ (s.pend = .absorb ∨ ∃ len, s.pend = .final len) ∧
      t.blocks.toNat = (s.blocks.toNat + 1) % 2 ^ 32)

/-- BUSY rises only in the CMD write of an accepted ABSORB, FINAL or PERMUTE, which PEND then holds, and falls
only in the engine step or reset (10_state.md R28, R29). -/
def Obligations.BusyRisesAndFalls : Prop :=
  ∀ s t : State, step s = .next t →
    (s.busy = false → t.busy = true → s.err = .none ∧ ∃ w i, s.nextMove = .host (.wr 0x00#7 w) ∧ decode w = .ok i ∧
      ((i = .absorb ∧ t.pend = .absorb) ∨ (∃ len, i = .final len ∧ t.pend = .final len) ∨
       (i = .permute ∧ t.pend = .permute))) ∧
    (s.busy = true → t.busy = false → s.nextMove = .engine ∨ s.nextMove = .reset)

/-- The operands of a pending command are frozen: while BUSY = 1 no step but the engine's and reset changes S,
BLK, VAR, PHASE, PEND, BLOCKS or BUSY (20_memory.md R69, R58, R59). -/
def Obligations.OperandsFrozenWhileBusy : Prop :=
  ∀ s t : State, s.busy = true → step s = .next t → s.nextMove ≠ .engine → s.nextMove ≠ .reset →
    t.lanes = s.lanes ∧ t.blk = s.blk ∧ t.var = s.var ∧ t.phase = s.phase ∧ t.pend = s.pend ∧
    t.blocks = s.blocks ∧ t.busy = true

/-- A poll ends only when STATUS shows BUSY = 0, and then the block is as it was: until then the host stays at
the poll and nothing changes (20_memory.md R67; 30_encoding.md R92). -/
def Obligations.PollWaitsForCompletion : Prop :=
  ∀ (s : State) (ops : List HostOp), s.host = .poll :: ops →
    hostMove .poll s = .next (if s.busy = true then s else { s with host := ops })

/-- Weak fairness, bounded: whatever turns are scheduled, a busy block is idle again after at most one step more
than they are, so a poll ends (70_reset_and_hazards.md R240; the default turn is the model's choice,
notes/assumptions/1.md). -/
def Obligations.PendingCommandCompletes : Prop :=
  ∀ s : State, s.busy = true →
    ∃ n t, n ≤ s.sched.length + 1 ∧ Sys2Proof.core.run n s = .next t ∧ t.busy = false

/-- The invariant of 10_state.md R41 holds after reset. -/
def Obligations.ResetMeetsInvariant : Prop := State.reset.Inv

/-- Every step, of every agent, keeps the invariant of 10_state.md R41. -/
def Obligations.StepKeepsInvariant : Prop :=
  ∀ s t : State, s.Inv → step s = .next t → t.Inv
end

