-- ==== Sys2Proof/Laws/Bytes.lean ====
section
/-! SUPPORT. The byte views: a packed word has the bytes it was packed from, words and lanes are their
bytes, and what the block XOR does to each byte. -/

namespace Sys2Proof.Machine

/-- Bit b of byte m is bit 8·m + b of the word. -/
theorem getLsbD_byteOf (w : Word) (m b : Nat) (hb : b < 8) : (byteOf w m).getLsbD b = w.getLsbD (8 * m + b) := by
  simp [byteOf, hb]

theorem getLsbD_packWord (f : Fin 8 → Byte) (m : Fin 8) (b : Nat) (hb : b < 8) :
    (packWord f).getLsbD (8 * m.val + b) = (f m).getLsbD b := by
  unfold packWord
  simp only [BitVec.getLsbD_append]
  fin_cases m <;> simp <;> grind

/-- Byte m of a packed word is the byte packed there. -/
@[simp] theorem byteOf_packWord (f : Fin 8 → Byte) (m : Fin 8) : byteOf (packWord f) m.val = f m := by
  apply BitVec.eq_of_getLsbD_eq
  intro b hb
  rw [getLsbD_byteOf _ _ _ hb, getLsbD_packWord _ _ _ hb]

/-- Words with the same eight bytes are equal. -/
theorem eq_of_byteOf {v w : Word} (h : ∀ m : Fin 8, byteOf v m.val = byteOf w m.val) : v = w := by
  apply BitVec.eq_of_getLsbD_eq
  intro k hk
  have h1 := congrArg (fun x => x.getLsbD (k % 8)) (h ⟨k / 8, by omega⟩)
  simp only [getLsbD_byteOf _ _ _ (Nat.mod_lt k (by decide : 0 < 8)), Nat.div_add_mod] at h1
  exact h1

theorem byteOf_xor (v w : Word) (m : Nat) : byteOf (v ^^^ w) m = byteOf v m ^^^ byteOf w m := by
  simp [byteOf, BitVec.extractLsb'_xor]

/-- Byte j of the lanes built from a byte view is byte j of that view. -/
@[simp] theorem stateByte_lanesOfBytes (f : Fin 200 → Byte) (j : Fin 200) : stateByte (lanesOfBytes f) j = f j := by
  simp only [stateByte, lanesOfBytes, Vector.getElem_ofFn]
  rw [byteOf_packWord _ ⟨j.val % 8, by omega⟩]
  congr 1
  apply Fin.ext
  simp only
  omega

/-- Byte 8·i + m of the state is byte m of lane i. -/
theorem stateByte_at (a : Lanes) (i : Fin 25) (m : Fin 8) :
    stateByte a ⟨8 * i.val + m.val, by omega⟩ = byteOf a[i.val] m.val := by
  simp [stateByte, show (8 * i.val + m.val) / 8 = i.val by omega, show (8 * i.val + m.val) % 8 = m.val by omega]

/-- Byte 8·j + m of the buffer is byte m of BLK[j]. -/
theorem blkByte_at (b : BlkWords) (j : Fin 18) (m : Fin 8) :
    blkByte b ⟨8 * j.val + m.val, by omega⟩ = byteOf b[j.val] m.val := by
  simp [blkByte, show (8 * j.val + m.val) / 8 = j.val by omega, show (8 * j.val + m.val) % 8 = m.val by omega]

/-- Lanes with the same 200 bytes are equal. -/
theorem lanes_ext_bytes {a b : Lanes} (h : ∀ j, stateByte a j = stateByte b j) : a = b := by
  apply Vector.ext
  intro i hi
  apply eq_of_byteOf
  intro m
  rw [← stateByte_at a ⟨i, hi⟩ m, ← stateByte_at b ⟨i, hi⟩ m]
  exact h _

/-- What the block XOR does to byte j: a byte past the block stays, as if XORed with 0. -/
@[simp] theorem stateByte_xorBlock (a : Lanes) (block : List Byte) (j : Fin 200) :
    stateByte (xorBlock a block) j = stateByte a j ^^^ (block[j.val]?).getD 0#8 := by
  cases h : block[j.val]? <;> simp [xorBlock, h]

@[simp] theorem length_blkBytes (b : BlkWords) (n : Nat) : (blkBytes b n).length = min n 144 := by
  simp [blkBytes]

/-- Byte j of the bytes a command reads from BLK. -/
theorem getElem?_blkBytes (b : BlkWords) (n j : Nat) (hj : j < n) (hb : j < 144) :
    (blkBytes b n)[j]? = some (blkByte b ⟨j, hb⟩) := by
  simp [blkBytes, hj, hb]

@[simp] theorem length_stateBytes (a : Lanes) (n : Nat) : (stateBytes a n).length = min n 200 := by
  simp [stateBytes]

/-- Byte j of the squeeze read. -/
theorem getElem?_stateBytes (a : Lanes) (n j : Nat) (hj : j < n) (hb : j < 200) :
    (stateBytes a n)[j]? = some (stateByte a ⟨j, hb⟩) := by
  simp [stateBytes, hj, hb]

end Sys2Proof.Machine
end

