-- ==== Sys2Proof/Laws/Decode.lean ====
section
/-! SUPPORT. A word that matches a table row, or passes one line of the well-formedness check, is the word of
the command with the fields read from it. -/

namespace Sys2Proof

/-- Matching INIT's row leaves only VAR free. -/
theorem word_of_initMask (w : Word) (h : w &&& 0xFFFFFFFFFFFCFFFF#64 = 0x0000000000000001#64) :
    w = encode (.init (varField w)) := by
  apply BitVec.eq_of_getLsbD_eq
  intro i hi
  have hb := congrArg (fun x => x.getLsbD i) h
  simp only [BitVec.getLsbD_and] at hb
  revert hb
  simp only [encode, varField, BitVec.getLsbD_append, BitVec.getLsbD_extractLsb']
  interval_cases i <;> simp

/-- Matching FINAL's row leaves only LEN free. -/
theorem word_of_finalMask (w : Word) (h : w &&& 0xFFFFFFFFFFFF00FF#64 = 0x0000000000000003#64) :
    w = encode (.final (lenField w)) := by
  apply BitVec.eq_of_getLsbD_eq
  intro i hi
  have hb := congrArg (fun x => x.getLsbD i) h
  simp only [BitVec.getLsbD_and] at hb
  revert hb
  simp only [encode, lenField, BitVec.getLsbD_append, BitVec.getLsbD_extractLsb']
  interval_cases i <;> simp

/-- The rows of ABSORB and PERMUTE leave no bit free. -/
theorem and_fullMask (w : Word) : w &&& 0xFFFFFFFFFFFFFFFF#64 = w := by
  rw [show (0xFFFFFFFFFFFFFFFF#64) = BitVec.allOnes 64 by decide, BitVec.and_allOnes]

/-- Passing INIT's line of R88 leaves only VAR free. -/
theorem word_of_initSlices (w : Word) (h1 : w.extractLsb 3 0 = 1#4) (h2 : w.extractLsb 63 18 = 0#46)
    (h3 : w.extractLsb 15 4 = 0#12) : w = encode (.init (varField w)) := by
  apply BitVec.eq_of_getLsbD_eq
  intro i hi
  simp only [encode, varField, BitVec.getLsbD_append, BitVec.getLsbD_extractLsb']
  have e1 := congrArg (fun x => x.getLsbD i) h1
  have e2 := congrArg (fun x => x.getLsbD (i - 18)) h2
  have e3 := congrArg (fun x => x.getLsbD (i - 4)) h3
  revert e1 e2 e3
  simp only [BitVec.getLsbD_extractLsb]
  interval_cases i <;> simp <;> (intros; assumption)

/-- Passing FINAL's line of R88 leaves only LEN free. -/
theorem word_of_finalSlices (w : Word) (h1 : w.extractLsb 3 0 = 3#4) (h2 : w.extractLsb 63 16 = 0#48)
    (h3 : w.extractLsb 7 4 = 0#4) : w = encode (.final (lenField w)) := by
  apply BitVec.eq_of_getLsbD_eq
  intro i hi
  simp only [encode, lenField, BitVec.getLsbD_append, BitVec.getLsbD_extractLsb']
  have e1 := congrArg (fun x => x.getLsbD i) h1
  have e2 := congrArg (fun x => x.getLsbD (i - 16)) h2
  have e3 := congrArg (fun x => x.getLsbD (i - 4)) h3
  revert e1 e2 e3
  simp only [BitVec.getLsbD_extractLsb]
  interval_cases i <;> simp <;> (intros; assumption)

/-- A word with only OP free is OP. -/
theorem word_of_opSlices (w : Word) (k : BitVec 4) (h1 : w.extractLsb 3 0 = k) (h2 : w.extractLsb 63 4 = 0#60) :
    w = (0#60 ++ k : BitVec 64) := by
  subst h1
  apply BitVec.eq_of_getLsbD_eq
  intro i hi
  simp only [BitVec.getLsbD_append]
  have e2 := congrArg (fun x => x.getLsbD (i - 4)) h2
  revert e2
  simp only [BitVec.getLsbD_extractLsb]
  interval_cases i <;> simp

/-- The four VAR codes. -/
theorem varCode_cases : ∀ code : BitVec 2, code = 0#2 ∨ code = 1#2 ∨ code = 2#2 ∨ code = 3#2 := by decide

/-- The sixteen OP codes, by the command each selects. -/
theorem opCode_cases : ∀ op : BitVec 4, op = 1#4 ∨ op = 2#4 ∨ op = 3#4 ∨ op = 4#4 ∨ op.toNat = 0 ∨ 5 ≤ op.toNat := by
  decide

end Sys2Proof
end

