-- ==== Sys2Proof/Laws/Keccak.lean ====
section
/-! SUPPORT. Each step mapping of the permutation read off at one lane. -/

namespace Sys2Proof.Machine

/-- The lane at (x,y) of an array built by coordinates. -/
@[simp] theorem laneXY_lanesOfXY (f : Fin 5 → Fin 5 → Word) (x y : Fin 5) : laneXY (lanesOfXY f) x y = f x y := by
  simp only [laneXY, lanesOfXY, Vector.getElem_ofFn]
  congr 1 <;> apply Fin.ext <;> simp only <;> omega

/-- Lane i is the lane at (i mod 5, i div 5). -/
theorem getElem_eq_laneXY (a : Lanes) (i : Nat) (hi : i < 25) :
    a[i] = laneXY a ⟨i % 5, by omega⟩ ⟨i / 5, by omega⟩ := by
  simp only [laneXY]
  congr 1
  omega

/-- Lane x + 5·y is the lane at (x,y). -/
theorem getElem_xy (a : Lanes) (x y : Nat) (hx : x < 5) (hy : y < 5) :
    a[x + 5 * y]'(by omega) = laneXY a ⟨x, hx⟩ ⟨y, hy⟩ := rfl

/-- Arrays with the same lane at every (x,y) are equal. -/
theorem lanes_ext_xy {a b : Lanes} (h : ∀ x y, laneXY a x y = laneXY b x y) : a = b := by
  apply Vector.ext
  intro i hi
  rw [getElem_eq_laneXY a i hi, getElem_eq_laneXY b i hi]
  exact h _ _

theorem laneXY_theta (a : Lanes) (x y : Fin 5) :
    laneXY (theta a) x y = laneXY a x y ^^^ (columnParity a (x - 1) ^^^ rotl (columnParity a (x + 1)) 1) := by
  simp [theta, Vector.get_eq_getElem]

theorem laneXY_rho (a : Lanes) (x y : Fin 5) :
    laneXY (rho a) x y = rotl (laneXY a x y) rhoOffsets[x.val + 5 * y.val] := by
  simp [rho]

theorem laneXY_piStep (a : Lanes) (x y : Fin 5) : laneXY (piStep a) x y = laneXY a (x + 3 * y) x := by
  simp [piStep]

theorem laneXY_chi (a : Lanes) (x y : Fin 5) :
    laneXY (chi a) x y = laneXY a x y ^^^ (~~~(laneXY a (x + 1) y) &&& laneXY a (x + 2) y) := by
  simp [chi]

theorem getElem_iota (a : Lanes) (i : Fin 24) (k : Nat) (hk : k < 25) :
    (iota a i)[k] = if k = 0 then a[0] ^^^ roundConstants[i.val] else a[k] := by
  simp only [iota, Vector.getElem_set, eq_comm]

end Sys2Proof.Machine
end

