-- ==== Sys2Proof/Laws/Padding.lean ====
section
/-! SUPPORT. The pad bytes one by one, the bounds of the rate, and the absorbing of one block more. -/

namespace Sys2Proof.Machine

theorem rateBytes_pos (v : Variant) : 0 < rateBytes v := by cases v <;> decide

/-- BLK holds a whole block of either variant. -/
theorem rateBytes_le (v : Variant) : rateBytes v ≤ 144 := by cases v <;> decide

theorem rateBytes_mod_eight (v : Variant) : rateBytes v % 8 = 0 := by cases v <;> decide

/-- There are p pad bytes. -/
theorem length_padBytes (p : Nat) (hp : 0 < p) : (padBytes p).length = p := by
  unfold padBytes
  split
  · simp [*]
  · simp
    omega

/-- Pad byte j of p. -/
theorem getElem?_padBytes (p j : Nat) (hp : 0 < p) :
    (padBytes p)[j]? = if p ≤ j then none else some
      (if j = 0 ∧ p = 1 then 0x86#8 else if j = 0 then 0x06#8 else if j + 1 = p then 0x80#8 else 0x00#8) := by
  unfold padBytes
  by_cases h1 : p = 1
  · subst h1
    rcases j with _ | j <;> simp
  · simp only [h1, if_false]
    rcases j with _ | j
    · simp
      omega
    · simp only [List.cons_append, List.nil_append, List.getElem?_cons_succ]
      rcases Nat.lt_trichotomy j (p - 2) with h | h | h
      · rw [List.getElem?_append_left (by simpa using h)]
        simp [h]
        omega
      · rw [List.getElem?_append_right (by simp; omega)]
        simp [h]
        grind
      · rw [List.getElem?_append_right (by simp; omega), List.getElem?_eq_none (by simp; omega),
          if_pos (by omega)]

/-- Absorbing n + 1 blocks is absorbing n and then block n. -/
theorem absorbBlocks_succ (p : List Byte) (r n : Nat) :
    absorbBlocks p r (n + 1) = absorb (absorbBlocks p r n) (blockAt p r n) := by
  simp [absorbBlocks, List.range_succ]

end Sys2Proof.Machine
end

