-- ==== Sys2Proof/Laws/PerInstr.lean ====
section
/-! SUPPORT. The statements made per command: its encoding passes the spec's well-formedness check
(30_encoding.md R88), for every operand value. -/

namespace Sys2Proof.Laws.EncodeWellFormed

/-- The word of the command is well-formed. -/
def Statement (i : Instr) : Prop := wellFormed (encode i) = true

theorem init (var : BitVec 2) : Statement (.init var) := by
  revert var
  unfold Statement
  decide

theorem absorb : Statement .absorb := by
  unfold Statement
  decide

theorem final (len : BitVec 8) : Statement (.final len) := by
  unfold Statement
  decide +revert

theorem permute : Statement .permute := by
  unfold Statement
  decide

end Sys2Proof.Laws.EncodeWellFormed
end

