-- ==== Sys2Proof/Laws/State.lean ====
section
/-! SUPPORT. What each register update does to each field, one lemma per field per update, and when two
updates in a row are one. -/

namespace Sys2Proof.Machine.State

variable (s : State)

@[simp] theorem setLane_lanes (i : Fin 25) (v : Word) : (s.setLane i v).lanes = s.lanes.set i.val v := rfl
@[simp] theorem setLane_blk (i : Fin 25) (v : Word) : (s.setLane i v).blk = s.blk := rfl
@[simp] theorem setLane_var (i : Fin 25) (v : Word) : (s.setLane i v).var = s.var := rfl
@[simp] theorem setLane_phase (i : Fin 25) (v : Word) : (s.setLane i v).phase = s.phase := rfl
@[simp] theorem setLane_busy (i : Fin 25) (v : Word) : (s.setLane i v).busy = s.busy := rfl
@[simp] theorem setLane_pend (i : Fin 25) (v : Word) : (s.setLane i v).pend = s.pend := rfl
@[simp] theorem setLane_err (i : Fin 25) (v : Word) : (s.setLane i v).err = s.err := rfl
@[simp] theorem setLane_blocks (i : Fin 25) (v : Word) : (s.setLane i v).blocks = s.blocks := rfl
@[simp] theorem setLane_host (i : Fin 25) (v : Word) : (s.setLane i v).host = s.host := rfl
@[simp] theorem setLane_sched (i : Fin 25) (v : Word) : (s.setLane i v).sched = s.sched := rfl
@[simp] theorem setLane_replies (i : Fin 25) (v : Word) : (s.setLane i v).replies = s.replies := rfl
@[simp] theorem setLane_draws (i : Fin 25) (v : Word) : (s.setLane i v).draws = s.draws := rfl

@[simp] theorem setBlk_lanes (j : Fin 18) (v : Word) : (s.setBlk j v).lanes = s.lanes := rfl
@[simp] theorem setBlk_blk (j : Fin 18) (v : Word) : (s.setBlk j v).blk = s.blk.set j.val v := rfl
@[simp] theorem setBlk_var (j : Fin 18) (v : Word) : (s.setBlk j v).var = s.var := rfl
@[simp] theorem setBlk_phase (j : Fin 18) (v : Word) : (s.setBlk j v).phase = s.phase := rfl
@[simp] theorem setBlk_busy (j : Fin 18) (v : Word) : (s.setBlk j v).busy = s.busy := rfl
@[simp] theorem setBlk_pend (j : Fin 18) (v : Word) : (s.setBlk j v).pend = s.pend := rfl
@[simp] theorem setBlk_err (j : Fin 18) (v : Word) : (s.setBlk j v).err = s.err := rfl
@[simp] theorem setBlk_blocks (j : Fin 18) (v : Word) : (s.setBlk j v).blocks = s.blocks := rfl
@[simp] theorem setBlk_host (j : Fin 18) (v : Word) : (s.setBlk j v).host = s.host := rfl
@[simp] theorem setBlk_sched (j : Fin 18) (v : Word) : (s.setBlk j v).sched = s.sched := rfl
@[simp] theorem setBlk_replies (j : Fin 18) (v : Word) : (s.setBlk j v).replies = s.replies := rfl
@[simp] theorem setBlk_draws (j : Fin 18) (v : Word) : (s.setBlk j v).draws = s.draws := rfl

@[simp] theorem raise_lanes (code : Err) : (s.raise code).lanes = s.lanes := rfl
@[simp] theorem raise_blk (code : Err) : (s.raise code).blk = s.blk := rfl
@[simp] theorem raise_var (code : Err) : (s.raise code).var = s.var := rfl
@[simp] theorem raise_phase (code : Err) : (s.raise code).phase = s.phase := rfl
@[simp] theorem raise_busy (code : Err) : (s.raise code).busy = s.busy := rfl
@[simp] theorem raise_pend (code : Err) : (s.raise code).pend = s.pend := rfl
@[simp] theorem raise_err (code : Err) : (s.raise code).err = if s.err = .none then code else s.err := rfl
@[simp] theorem raise_blocks (code : Err) : (s.raise code).blocks = s.blocks := rfl
@[simp] theorem raise_host (code : Err) : (s.raise code).host = s.host := rfl
@[simp] theorem raise_sched (code : Err) : (s.raise code).sched = s.sched := rfl
@[simp] theorem raise_replies (code : Err) : (s.raise code).replies = s.replies := rfl
@[simp] theorem raise_draws (code : Err) : (s.raise code).draws = s.draws := rfl

@[simp] theorem accept_lanes (p : Pend) : (s.accept p).lanes = s.lanes := rfl
@[simp] theorem accept_blk (p : Pend) : (s.accept p).blk = s.blk := rfl
@[simp] theorem accept_var (p : Pend) : (s.accept p).var = s.var := rfl
@[simp] theorem accept_phase (p : Pend) : (s.accept p).phase = s.phase := rfl
@[simp] theorem accept_busy (p : Pend) : (s.accept p).busy = true := rfl
@[simp] theorem accept_pend (p : Pend) : (s.accept p).pend = p := rfl
@[simp] theorem accept_err (p : Pend) : (s.accept p).err = s.err := rfl
@[simp] theorem accept_blocks (p : Pend) : (s.accept p).blocks = s.blocks := rfl
@[simp] theorem accept_host (p : Pend) : (s.accept p).host = s.host := rfl
@[simp] theorem accept_sched (p : Pend) : (s.accept p).sched = s.sched := rfl
@[simp] theorem accept_replies (p : Pend) : (s.accept p).replies = s.replies := rfl
@[simp] theorem accept_draws (p : Pend) : (s.accept p).draws = s.draws := rfl

@[simp] theorem retire_lanes : (s.retire).lanes = s.lanes := rfl
@[simp] theorem retire_blk : (s.retire).blk = s.blk := rfl
@[simp] theorem retire_var : (s.retire).var = s.var := rfl
@[simp] theorem retire_phase : (s.retire).phase = s.phase := rfl
@[simp] theorem retire_busy : (s.retire).busy = false := rfl
@[simp] theorem retire_pend : (s.retire).pend = .none := rfl
@[simp] theorem retire_err : (s.retire).err = s.err := rfl
@[simp] theorem retire_blocks : (s.retire).blocks = s.blocks := rfl
@[simp] theorem retire_host : (s.retire).host = s.host := rfl
@[simp] theorem retire_sched : (s.retire).sched = s.sched := rfl
@[simp] theorem retire_replies : (s.retire).replies = s.replies := rfl
@[simp] theorem retire_draws : (s.retire).draws = s.draws := rfl

@[simp] theorem doInit_lanes (v : Variant) : (s.doInit v).lanes = Vector.replicate 25 0#64 := rfl
@[simp] theorem doInit_blk (v : Variant) : (s.doInit v).blk = s.blk := rfl
@[simp] theorem doInit_var (v : Variant) : (s.doInit v).var = v := rfl
@[simp] theorem doInit_phase (v : Variant) : (s.doInit v).phase = .absorb := rfl
@[simp] theorem doInit_busy (v : Variant) : (s.doInit v).busy = s.busy := rfl
@[simp] theorem doInit_pend (v : Variant) : (s.doInit v).pend = s.pend := rfl
@[simp] theorem doInit_err (v : Variant) : (s.doInit v).err = .none := rfl
@[simp] theorem doInit_blocks (v : Variant) : (s.doInit v).blocks = 0#32 := rfl
@[simp] theorem doInit_host (v : Variant) : (s.doInit v).host = s.host := rfl
@[simp] theorem doInit_sched (v : Variant) : (s.doInit v).sched = s.sched := rfl
@[simp] theorem doInit_replies (v : Variant) : (s.doInit v).replies = s.replies := rfl
@[simp] theorem doInit_draws (v : Variant) : (s.doInit v).draws = s.draws := rfl

@[simp] theorem resetBlock_lanes : (s.resetBlock).lanes = State.reset.lanes := rfl
@[simp] theorem resetBlock_blk : (s.resetBlock).blk = State.reset.blk := rfl
@[simp] theorem resetBlock_var : (s.resetBlock).var = State.reset.var := rfl
@[simp] theorem resetBlock_phase : (s.resetBlock).phase = State.reset.phase := rfl
@[simp] theorem resetBlock_busy : (s.resetBlock).busy = State.reset.busy := rfl
@[simp] theorem resetBlock_pend : (s.resetBlock).pend = State.reset.pend := rfl
@[simp] theorem resetBlock_err : (s.resetBlock).err = State.reset.err := rfl
@[simp] theorem resetBlock_blocks : (s.resetBlock).blocks = State.reset.blocks := rfl
@[simp] theorem resetBlock_host : (s.resetBlock).host = s.host := rfl
@[simp] theorem resetBlock_sched : (s.resetBlock).sched = s.sched := rfl
@[simp] theorem resetBlock_replies : (s.resetBlock).replies = s.replies := rfl
@[simp] theorem resetBlock_draws : (s.resetBlock).draws = s.draws := rfl

@[simp] theorem popSched_lanes : (s.popSched).lanes = s.lanes := rfl
@[simp] theorem popSched_blk : (s.popSched).blk = s.blk := rfl
@[simp] theorem popSched_var : (s.popSched).var = s.var := rfl
@[simp] theorem popSched_phase : (s.popSched).phase = s.phase := rfl
@[simp] theorem popSched_busy : (s.popSched).busy = s.busy := rfl
@[simp] theorem popSched_pend : (s.popSched).pend = s.pend := rfl
@[simp] theorem popSched_err : (s.popSched).err = s.err := rfl
@[simp] theorem popSched_blocks : (s.popSched).blocks = s.blocks := rfl
@[simp] theorem popSched_host : (s.popSched).host = s.host := rfl
@[simp] theorem popSched_sched : (s.popSched).sched = s.sched.tail := rfl
@[simp] theorem popSched_replies : (s.popSched).replies = s.replies := rfl
@[simp] theorem popSched_draws : (s.popSched).draws = s.draws := rfl

@[simp] theorem popHost_lanes : (s.popHost).lanes = s.lanes := rfl
@[simp] theorem popHost_blk : (s.popHost).blk = s.blk := rfl
@[simp] theorem popHost_var : (s.popHost).var = s.var := rfl
@[simp] theorem popHost_phase : (s.popHost).phase = s.phase := rfl
@[simp] theorem popHost_busy : (s.popHost).busy = s.busy := rfl
@[simp] theorem popHost_pend : (s.popHost).pend = s.pend := rfl
@[simp] theorem popHost_err : (s.popHost).err = s.err := rfl
@[simp] theorem popHost_blocks : (s.popHost).blocks = s.blocks := rfl
@[simp] theorem popHost_host : (s.popHost).host = s.host.tail := rfl
@[simp] theorem popHost_sched : (s.popHost).sched = s.sched := rfl
@[simp] theorem popHost_replies : (s.popHost).replies = s.replies := rfl
@[simp] theorem popHost_draws : (s.popHost).draws = s.draws := rfl

@[simp] theorem completePermute_lanes : (s.completePermute).lanes = keccakF s.lanes := rfl
@[simp] theorem completePermute_blk : (s.completePermute).blk = s.blk := rfl
@[simp] theorem completePermute_var : (s.completePermute).var = s.var := rfl
@[simp] theorem completePermute_phase : (s.completePermute).phase = s.phase := rfl
@[simp] theorem completePermute_busy : (s.completePermute).busy = s.busy := rfl
@[simp] theorem completePermute_pend : (s.completePermute).pend = s.pend := rfl
@[simp] theorem completePermute_err : (s.completePermute).err = s.err := rfl
@[simp] theorem completePermute_blocks : (s.completePermute).blocks = s.blocks := rfl
@[simp] theorem completePermute_host : (s.completePermute).host = s.host := rfl
@[simp] theorem completePermute_sched : (s.completePermute).sched = s.sched := rfl
@[simp] theorem completePermute_replies : (s.completePermute).replies = s.replies := rfl
@[simp] theorem completePermute_draws : (s.completePermute).draws = s.draws := rfl

@[simp] theorem completeAbsorb_lanes : (s.completeAbsorb).lanes = Machine.absorb s.lanes (blkBytes s.blk (rateBytes s.var)) := rfl
@[simp] theorem completeAbsorb_blk : (s.completeAbsorb).blk = s.blk := rfl
@[simp] theorem completeAbsorb_var : (s.completeAbsorb).var = s.var := rfl
@[simp] theorem completeAbsorb_phase : (s.completeAbsorb).phase = s.phase := rfl
@[simp] theorem completeAbsorb_busy : (s.completeAbsorb).busy = s.busy := rfl
@[simp] theorem completeAbsorb_pend : (s.completeAbsorb).pend = s.pend := rfl
@[simp] theorem completeAbsorb_err : (s.completeAbsorb).err = s.err := rfl
@[simp] theorem completeAbsorb_blocks : (s.completeAbsorb).blocks = s.blocks + 1#32 := rfl
@[simp] theorem completeAbsorb_host : (s.completeAbsorb).host = s.host := rfl
@[simp] theorem completeAbsorb_sched : (s.completeAbsorb).sched = s.sched := rfl
@[simp] theorem completeAbsorb_replies : (s.completeAbsorb).replies = s.replies := rfl
@[simp] theorem completeAbsorb_draws : (s.completeAbsorb).draws = s.draws := rfl

@[simp] theorem completeFinal_lanes (len : BitVec 8) : (s.completeFinal len).lanes = Machine.absorb s.lanes (finalBlockBytes s.blk s.var len.toNat) := rfl
@[simp] theorem completeFinal_blk (len : BitVec 8) : (s.completeFinal len).blk = s.blk := rfl
@[simp] theorem completeFinal_var (len : BitVec 8) : (s.completeFinal len).var = s.var := rfl
@[simp] theorem completeFinal_phase (len : BitVec 8) : (s.completeFinal len).phase = .done := rfl
@[simp] theorem completeFinal_busy (len : BitVec 8) : (s.completeFinal len).busy = s.busy := rfl
@[simp] theorem completeFinal_pend (len : BitVec 8) : (s.completeFinal len).pend = s.pend := rfl
@[simp] theorem completeFinal_err (len : BitVec 8) : (s.completeFinal len).err = s.err := rfl
@[simp] theorem completeFinal_blocks (len : BitVec 8) : (s.completeFinal len).blocks = s.blocks + 1#32 := rfl
@[simp] theorem completeFinal_host (len : BitVec 8) : (s.completeFinal len).host = s.host := rfl
@[simp] theorem completeFinal_sched (len : BitVec 8) : (s.completeFinal len).sched = s.sched := rfl
@[simp] theorem completeFinal_replies (len : BitVec 8) : (s.completeFinal len).replies = s.replies := rfl
@[simp] theorem completeFinal_draws (len : BitVec 8) : (s.completeFinal len).draws = s.draws := rfl

@[simp] theorem raise_of_err (code : Err) (h : s.err ≠ .none) : s.raise code = s := by
  simp [State.raise, h]

/-- The command checks pass: the command's own effect follows. -/
theorem guarded_pass (body : State → State) (hb : s.busy = false) (he : s.err = .none) :
    s.guarded body = body s := by
  simp [State.guarded, hb, he]

/-- A busy block refuses the command. -/
theorem guarded_busy (body : State → State) (hb : s.busy = true) : s.guarded body = s.raise .busyAccess := by
  simp [State.guarded, hb]

/-- An idle block under the error lock drops the command. -/
theorem guarded_locked (body : State → State) (hb : s.busy = false) (he : s.err ≠ .none) :
    s.guarded body = s := by
  simp [State.guarded, hb, he]

end Sys2Proof.Machine.State

namespace Sys2Proof.Machine

variable (s : State)

/-- The engine step by what is pending. -/
theorem engineStep_none (h : s.pend = .none) : engineStep s = s.retire := by simp [engineStep, h]

theorem engineStep_absorb (h : s.pend = .absorb) : engineStep s = s.completeAbsorb.retire := by
  simp [engineStep, h]

theorem engineStep_final (len : BitVec 8) (h : s.pend = .final len) :
    engineStep s = (s.completeFinal len).retire := by
  simp [engineStep, h]

theorem engineStep_permute (h : s.pend = .permute) : engineStep s = s.completePermute.retire := by
  simp [engineStep, h]

@[simp] theorem engineStep_blk : (engineStep s).blk = s.blk := by
  unfold engineStep
  cases s.pend <;> rfl

@[simp] theorem engineStep_var : (engineStep s).var = s.var := by
  unfold engineStep
  cases s.pend <;> rfl

@[simp] theorem engineStep_busy : (engineStep s).busy = false := by
  unfold engineStep
  cases s.pend <;> rfl

@[simp] theorem engineStep_pend : (engineStep s).pend = .none := by
  unfold engineStep
  cases s.pend <;> rfl

@[simp] theorem engineStep_err : (engineStep s).err = s.err := by
  unfold engineStep
  cases s.pend <;> rfl

@[simp] theorem engineStep_host : (engineStep s).host = s.host := by
  unfold engineStep
  cases s.pend <;> rfl

@[simp] theorem engineStep_sched : (engineStep s).sched = s.sched := by
  unfold engineStep
  cases s.pend <;> rfl

@[simp] theorem engineStep_replies : (engineStep s).replies = s.replies := by
  unfold engineStep
  cases s.pend <;> rfl

@[simp] theorem engineStep_draws : (engineStep s).draws = s.draws := by
  unfold engineStep
  cases s.pend <;> rfl

end Sys2Proof.Machine
end

