-- ==== Sys2Proof/Laws/Transitions.lean ====
section
/-! SUPPORT. What each transition can do, said once: a CMD write, a host write, a host operation, a step.
Every whole-machine claim is a case analysis over these. -/

namespace Sys2Proof.Machine

/-- What a write of the word `w` to CMD can do to the state. -/
inductive CmdEffect (w : Word) (s : State) : State → Prop where
  /-- The word is refused with a code, which ERR takes if it was 0. -/
  | refused (code : Err) (hc : code ≠ .none) : CmdEffect w s (s.raise code)
  /-- The block is idle and its error lock drops the word. -/
  | locked (hb : s.busy = false) (he : s.err ≠ .none) : CmdEffect w s s
  /-- A valid INIT is accepted, under the error lock or not. -/
  | inited (code : BitVec 2) (v : Variant) (hb : s.busy = false) (hd : decode w = .ok (.init code))
      (hv : variantOfCode code = some v) : CmdEffect w s (s.doInit v)
  /-- ABSORB is accepted. -/
  | absorbing (hb : s.busy = false) (he : s.err = .none) (hd : decode w = .ok .absorb) (hp : s.phase = .absorb) :
      CmdEffect w s (s.accept .absorb)
  /-- FINAL is accepted. -/
  | finishing (len : BitVec 8) (hb : s.busy = false) (he : s.err = .none) (hd : decode w = .ok (.final len))
      (hp : s.phase = .absorb) (hl : len.toNat < rateBytes s.var) : CmdEffect w s (s.accept (.final len))
  /-- PERMUTE is accepted. -/
  | permuting (hb : s.busy = false) (he : s.err = .none) (hd : decode w = .ok .permute) :
      CmdEffect w s (s.accept .permute)

/-- A CMD write always answers a next state, and does one of the six things. -/
theorem cmdWrite_effect (w : Word) (s : State) : ∃ t, cmdWrite w s = .next t ∧ CmdEffect w s t := by
  unfold cmdWrite
  cases hb : s.busy
  case true =>
    refine ⟨s.raise .busyAccess, ?_, .refused _ (by decide)⟩
    cases decode w with
    | error => simp [State.guarded_busy, hb]
    | ok i => cases i <;> simp [exec, execInit, execAbsorb, execFinal, execPermute, State.guarded_busy, hb]
  case false =>
    by_cases he : s.err = .none
    case neg =>
      have hl : CmdEffect w s s := .locked hb he
      cases hd : decode w with
      | error => exact ⟨s, by simp [State.guarded_locked, hb, he], hl⟩
      | ok i =>
        cases i with
        | init code =>
          cases hv : variantOfCode code with
          | none => exact ⟨s, by simp [exec, execInit, State.guarded_locked, hb, he, hv], hl⟩
          | some v => exact ⟨s.doInit v, by simp [exec, execInit, hb, hv], .inited code v hb hd hv⟩
        | absorb => exact ⟨s, by simp [exec, execAbsorb, State.guarded_locked, hb, he], hl⟩
        | final len => exact ⟨s, by simp [exec, execFinal, State.guarded_locked, hb, he], hl⟩
        | permute => exact ⟨s, by simp [exec, execPermute, State.guarded_locked, hb, he], hl⟩
    case pos =>
      cases hd : decode w with
      | error => exact ⟨_, rfl, by simpa [State.guarded_pass, hb, he] using CmdEffect.refused _ (by decide)⟩
      | ok i =>
        cases i with
        | init code =>
          cases hv : variantOfCode code with
          | none =>
            exact ⟨s.raise .badVariant, by simp [exec, execInit, State.guarded_pass, hb, he, hv],
              .refused _ (by decide)⟩
          | some v => exact ⟨s.doInit v, by simp [exec, execInit, hb, hv], .inited code v hb hd hv⟩
        | absorb =>
          by_cases hp : s.phase = .absorb
          · exact ⟨_, by simp [exec, execAbsorb, State.guarded_pass, hb, he, hp], .absorbing hb he hd hp⟩
          · exact ⟨s.raise .sequence, by simp [exec, execAbsorb, State.guarded_pass, hb, he, hp],
              .refused _ (by decide)⟩
        | final len =>
          by_cases hp : s.phase = .absorb
          · by_cases hl : rateBytes s.var ≤ len.toNat
            · exact ⟨s.raise .badLength, by simp [exec, execFinal, State.guarded_pass, hb, he, hp, hl],
                .refused _ (by decide)⟩
            · exact ⟨_, by simp [exec, execFinal, State.guarded_pass, hb, he, hp, hl],
                .finishing len hb he hd hp (by omega)⟩
          · exact ⟨s.raise .sequence, by simp [exec, execFinal, State.guarded_pass, hb, he, hp],
              .refused _ (by decide)⟩
        | permute =>
          exact ⟨_, by simp [exec, execPermute, State.guarded_pass, hb, he], .permuting hb he hd⟩

/-- What a host write can do to the state. -/
inductive WriteEffect (widx : WordIndex) (v : Word) (s : State) : State → Prop where
  /-- A write of CMD. -/
  | command (t : State) (hr : regOf widx = .cmd) (h : CmdEffect v s t) : WriteEffect widx v s t
  /-- The write is dropped with a code, which ERR takes if it was 0. -/
  | refused (code : Err) (hc : code ≠ .none) : WriteEffect widx v s (s.raise code)
  /-- BLK[j] takes the value. -/
  | blk (j : Fin 18) (hr : regOf widx = .blk j) (hb : s.busy = false) : WriteEffect widx v s (s.setBlk j v)
  /-- lane(i) takes the value. -/
  | state (i : Fin 25) (hr : regOf widx = .state i) (hb : s.busy = false) : WriteEffect widx v s (s.setLane i v)

/-- A host write always answers a next state, and does one of these things. -/
theorem memWrite_effect (widx : WordIndex) (v : Word) (s : State) :
    ∃ t, memWrite widx v s = .next t ∧ WriteEffect widx v s t := by
  unfold memWrite
  split
  case h_1 hr =>
    obtain ⟨t, ht, he⟩ := cmdWrite_effect v s
    exact ⟨t, ht, .command t hr he⟩
  case h_2 => exact ⟨_, rfl, .refused _ (by decide)⟩
  case h_3 j hr =>
    cases hb : s.busy
    · exact ⟨s.setBlk j v, by simp, .blk j hr hb⟩
    · exact ⟨s.raise .busyAccess, by simp, .refused _ (by decide)⟩
  case h_4 i hr =>
    cases hb : s.busy
    · exact ⟨s.setLane i v, by simp, .state i hr hb⟩
    · exact ⟨s.raise .busyAccess, by simp, .refused _ (by decide)⟩
  case h_5 => exact ⟨_, rfl, .refused _ (by decide)⟩

/-- Whether a STATUS read shows BUSY. -/
@[simp] theorem status_zero (s : State) : s.status[0] = s.busy := by
  have low : ∀ (x : BitVec 63) (b : Bool), (x ++ BitVec.ofBool b)[0] = b := by
    intro x b
    rw [BitVec.getElem_append]
    cases b <;> rfl
  exact low _ _

@[simp] theorem memRead_status (s : State) : memRead 0x01#7 s = s.status := rfl

/-- What one step can do to the state: the move is named, and `s.popSched` is `s` with the turn taken. -/
inductive StepEffect (s : State) : State → Prop where
  | idle (hm : s.nextMove = .idle) : StepEffect s s.popSched
  | wr (widx : WordIndex) (v : Word) (t : State) (hm : s.nextMove = .host (.wr widx v))
      (h : WriteEffect widx v s.popSched.popHost t) : StepEffect s t
  | rd (widx : WordIndex) (hm : s.nextMove = .host (.rd widx)) :
      StepEffect s { s.popSched.popHost with
        replies := memRead widx s.popSched :: s.replies
        draws := if readsDraw widx s.popSched then s.draws + 1 else s.draws }
  | pollAgain (hm : s.nextMove = .host .poll) (hb : s.busy = true) : StepEffect s s.popSched
  | pollDone (hm : s.nextMove = .host .poll) (hb : s.busy = false) : StepEffect s s.popSched.popHost
  | engine (hm : s.nextMove = .engine) (hb : s.busy = true) : StepEffect s (engineStep s.popSched)
  | reset (hm : s.nextMove = .reset) : StepEffect s s.popSched.resetBlock

/-- The engine moves only while BUSY = 1. -/
theorem busy_of_nextMove_engine {s : State} (h : s.nextMove = .engine) : s.busy = true := by
  unfold State.nextMove at h
  split at h
  · split at h <;> simp at h
  · split at h
    · assumption
    · simp at h
  · simp at h

/-- Every step answers a next state, and does one of these things. -/
theorem step_effect (s : State) : ∃ t, step s = .next t ∧ StepEffect s t := by
  unfold step
  cases hm : s.nextMove with
  | idle => exact ⟨_, rfl, .idle hm⟩
  | engine => exact ⟨_, rfl, .engine hm (busy_of_nextMove_engine hm)⟩
  | reset => exact ⟨_, rfl, .reset hm⟩
  | host op =>
    cases op with
    | wr widx v =>
      obtain ⟨t, ht, he⟩ := memWrite_effect widx v s.popSched.popHost
      exact ⟨t, ht, .wr widx v t hm he⟩
    | rd widx => exact ⟨_, rfl, .rd widx hm⟩
    | poll =>
      cases hb : s.busy
      · exact ⟨s.popSched.popHost, by simp [perform, hostMove, hb], .pollDone hm hb⟩
      · exact ⟨s.popSched, by simp [perform, hostMove, hb], .pollAgain hm hb⟩

/-- The effect of a step whose next state is known. -/
theorem effect_of_step {s t : State} (h : step s = .next t) : StepEffect s t := by
  obtain ⟨u, hu, he⟩ := step_effect s
  rw [h] at hu
  cases hu
  exact he

/-- The effect of a CMD write whose next state is known. -/
theorem effect_of_cmdWrite {w : Word} {s t : State} (h : cmdWrite w s = .next t) : CmdEffect w s t := by
  obtain ⟨u, hu, he⟩ := cmdWrite_effect w s
  rw [h] at hu
  cases hu
  exact he

/-- The effect of a host write whose next state is known. -/
theorem effect_of_memWrite {widx : WordIndex} {v : Word} {s t : State} (h : memWrite widx v s = .next t) :
    WriteEffect widx v s t := by
  obtain ⟨u, hu, he⟩ := memWrite_effect widx v s
  rw [h] at hu
  cases hu
  exact he

end Sys2Proof.Machine
end

