-- ==== Sys2Proof/Laws/Window.lean ====
section
/-! SUPPORT. The register map index by index, and a packed word as a number. -/

namespace Sys2Proof.Machine

/-- Every word index names one register, by the ranges of the register map. -/
theorem regOf_cases (w : WordIndex) :
    (w.toNat = 0 ∧ regOf w = .cmd) ∨ (w.toNat = 1 ∧ regOf w = .status) ∨
    (∃ j : Fin 18, w.toNat = 0x10 + j.val ∧ regOf w = .blk j) ∨
    (∃ i : Fin 25, w.toNat = 0x40 + i.val ∧ regOf w = .state i) ∨
    (((2 ≤ w.toNat ∧ w.toNat ≤ 0x0F) ∨ (0x22 ≤ w.toNat ∧ w.toNat ≤ 0x3F) ∨ 0x59 ≤ w.toNat) ∧
      regOf w = .reserved) := by
  have hlt := w.isLt
  unfold regOf
  split
  · left
    simp [*]
  · split
    · right; left
      simp [*]
    · split
      · right; right; left
        exact ⟨⟨w.toNat - 0x10, by omega⟩, by simp only; omega, rfl⟩
      · split
        · right; right; right; left
          exact ⟨⟨w.toNat - 0x40, by omega⟩, by simp only; omega, rfl⟩
        · right; right; right; right
          exact ⟨by omega, rfl⟩

/-- BLK[j] is at 0x10 + j. -/
@[simp] theorem regOf_blk (j : Fin 18) : regOf (BitVec.ofNat 7 (0x10 + j.val)) = .blk j := by
  revert j
  decide

/-- STATE[i] is at 0x40 + i. -/
@[simp] theorem regOf_state (i : Fin 25) : regOf (BitVec.ofNat 7 (0x40 + i.val)) = .state i := by
  revert i
  decide

/-- Only index 0 is CMD. -/
theorem eq_zero_of_regOf_cmd {w : WordIndex} (h : regOf w = .cmd) : w = 0x00#7 := by
  revert w
  decide

/-- Fields packed side by side, as a number. -/
theorem toNat_append_add {n m : Nat} (x : BitVec n) (y : BitVec m) :
    (x ++ y).toNat = x.toNat * 2 ^ m + y.toNat := by
  rw [BitVec.toNat_append, ← Nat.shiftLeft_add_eq_or_of_lt y.isLt, Nat.shiftLeft_eq]

end Sys2Proof.Machine
end

