-- ==== Sys2Proof/Tests/Slice0.lean ====
section
/-! SUPPORT. Tests: words written out from 30_encoding.md, single steps whose results are the vectors of
95_test_vectors.md, and for each statement with hypotheses a concrete input that meets them (`witness_…`). -/

namespace Sys2Proof.Tests

open Sys2Proof Sys2Proof.Machine

/-! ## Helpers -/

/-- The state a step answers; the state after reset where it answers none. -/
def stateOf (o : Host.Outcome State Fault Refusal) : State :=
  match o with
  | .next s => s
  | .fault _ => State.reset
  | .refused _ => State.reset

/-- The STATUS word of the state a step answers; all-ones where it answers none. -/
def statusOf (o : Host.Outcome State Fault Refusal) : Word :=
  match o with
  | .next s => s.status
  | .fault _ => 0xFFFFFFFFFFFFFFFF#64
  | .refused _ => 0xFFFFFFFFFFFFFFFF#64

/-- A block in phase ABSORB: what INIT leaves after reset (95_test_vectors.md V-I1, V-I2). -/
def started (v : Variant) : State := { State.reset with var := v, phase := .absorb }

/-- A block with ABSORB pending (95_test_vectors.md V-A1). -/
def absorbing (v : Variant) : State := { started v with pend := .absorb, busy := true }

/-- A block with FINAL pending. -/
def finishing (v : Variant) (len : BitVec 8) : State := { started v with pend := .final len, busy := true }

/-- A locked block: `ABSORB` after reset (95_test_vectors.md V-A4). -/
def locked : State := { State.reset with err := .sequence }

/-- BLK filled with the words of "seq" (95_test_vectors.md, L2.4). -/
def seqBlk : BlkWords :=
  #v[0x0706050403020100#64, 0x0F0E0D0C0B0A0908#64, 0x1716151413121110#64, 0x1F1E1D1C1B1A1918#64,
     0x2726252423222120#64, 0x2F2E2D2C2B2A2928#64, 0x3736353433323130#64, 0x3F3E3D3C3B3A3938#64,
     0x4746454443424140#64, 0x4F4E4D4C4B4A4948#64, 0x5756555453525150#64, 0x5F5E5D5C5B5A5958#64,
     0x6766656463626160#64, 0x6F6E6D6C6B6A6968#64, 0x7776757473727170#64, 0x7F7E7D7C7B7A7978#64,
     0x8786858483828180#64, 0x8F8E8D8C8B8A8988#64]

/-- The all-zero state of the permutation. -/
def zeroLanes : Lanes := Vector.replicate 25 0#64

/-- The unit state U of 95_test_vectors.md V-P3. -/
def unitLanes : Lanes := zeroLanes.set 0 1#64

/-! ## WellFormed: what it refuses -/

/-- Each range of each command with its lowest and its highest bit set, and the unassigned opcodes: 30_encoding.md
R81, R86; 95_test_vectors.md V-E4, V-E5, V-E7, V-E9, V-E10, V-E12 to V-E15. -/
theorem test_wellFormed_refuses_init_zero_bits :
    wellFormed 0x0000000000000011#64 = false ∧ wellFormed 0x0000000000008001#64 = false ∧
    wellFormed 0x0000000000040001#64 = false ∧ wellFormed 0x8000000000000001#64 = false ∧
    wellFormed 0x0000000000030021#64 = false := by decide

theorem test_wellFormed_refuses_absorb_zero_bits :
    wellFormed 0x0000000000000012#64 = false ∧ wellFormed 0x0000000000000102#64 = false ∧
    wellFormed 0x8000000000000002#64 = false := by decide

theorem test_wellFormed_refuses_final_zero_bits :
    wellFormed 0x000000000000FF13#64 = false ∧ wellFormed 0x0000000000000083#64 = false ∧
    wellFormed 0x0000000000010003#64 = false ∧ wellFormed 0x8000000000000003#64 = false := by decide

theorem test_wellFormed_refuses_permute_zero_bits :
    wellFormed 0x0000000000000014#64 = false ∧ wellFormed 0x8000000000000004#64 = false := by decide

theorem test_wellFormed_refuses_unassigned_opcodes :
    wellFormed 0x0000000000000000#64 = false ∧ wellFormed 0x0000000000000005#64 = false ∧
    wellFormed 0x000000000000000F#64 = false := by decide

/-- 30_encoding.md R84 and R82: VAR 2 and 3 and LEN 144 to 255 are accepted in no state. -/
theorem test_operandsLegal_refuses :
    (Instr.init 2#2).operandsLegal = false ∧ (Instr.init 3#2).operandsLegal = false ∧
    (Instr.final 144#8).operandsLegal = false ∧ (Instr.final 255#8).operandsLegal = false := by decide

theorem test_operandsLegal_accepts :
    (Instr.init 0#2).operandsLegal = true ∧ (Instr.init 1#2).operandsLegal = true ∧
    Instr.absorb.operandsLegal = true ∧ (Instr.final 143#8).operandsLegal = true ∧
    Instr.permute.operandsLegal = true := by decide

/-! ## Decode: words written out from the format table of 30_encoding.md R80
The groups are bits [63:18], VAR [17:16], LEN [15:8], zero [7:4] and OP [3:0]. -/

theorem test_decode_init :
    decode (0#46 ++ 0b00#2 ++ 0b00000000#8 ++ 0b0000#4 ++ 0b0001#4) = .ok (.init 0#2) ∧
    decode (0#46 ++ 0b01#2 ++ 0b00000000#8 ++ 0b0000#4 ++ 0b0001#4) = .ok (.init 1#2) ∧
    decode (0#46 ++ 0b10#2 ++ 0b00000000#8 ++ 0b0000#4 ++ 0b0001#4) = .ok (.init 2#2) ∧
    decode (0#46 ++ 0b11#2 ++ 0b00000000#8 ++ 0b0000#4 ++ 0b0001#4) = .ok (.init 3#2) := by decide

theorem test_decode_absorb :
    decode (0#46 ++ 0b00#2 ++ 0b00000000#8 ++ 0b0000#4 ++ 0b0010#4) = .ok .absorb := by decide

/-- LEN = 143, 200 and 1 are 10001111, 11001000 and 00000001 in bits [15:8]. -/
theorem test_decode_final :
    decode (0#46 ++ 0b00#2 ++ 0b10001111#8 ++ 0b0000#4 ++ 0b0011#4) = .ok (.final 143#8) ∧
    decode (0#46 ++ 0b00#2 ++ 0b11001000#8 ++ 0b0000#4 ++ 0b0011#4) = .ok (.final 200#8) ∧
    decode (0#46 ++ 0b00#2 ++ 0b00000001#8 ++ 0b0000#4 ++ 0b0011#4) = .ok (.final 1#8) := by decide

theorem test_decode_permute :
    decode (0#46 ++ 0b00#2 ++ 0b00000000#8 ++ 0b0000#4 ++ 0b0100#4) = .ok .permute := by decide

/-- V-E4, V-E7, V-E13 and V-E14, with the reason. -/
theorem test_decode_rejects :
    decode 0x0000000000030021#64 = .error .mustBeZeroBitSet ∧
    decode 0x0000000000000102#64 = .error .mustBeZeroBitSet ∧
    decode 0x0000000000000000#64 = .error .unassignedOp ∧
    decode 0x0000000000000005#64 = .error .unassignedOp := by decide

/-- The words of 30_encoding.md R90. -/
theorem test_encode_listed_words :
    encode (.init 1#2) = 0x0000000000010001#64 ∧ encode .absorb = 0x0000000000000002#64 ∧
    encode (.final 135#8) = 0x0000000000008703#64 ∧ encode .permute = 0x0000000000000004#64 := by decide

/-- A command's word given by number, as the opcode table numbers its bits. -/
theorem test_decodeTableWord :
    decodeTableWord 64 0x0000000000010001 = some (.init 1#2) ∧ decodeTableWord 64 0x0000000000000002 = some .absorb ∧
    decodeTableWord 64 0x0000000000008F03 = some (.final 143#8) ∧ decodeTableWord 64 0x0000000000000004 = some .permute ∧
    decodeTableWord 64 0x0000000000000014 = none := by decide

/-! ## Commands, one step each -/

/-- V-I1 and V-I2. -/
theorem test_init_status :
    statusOf (step (State.reset.withFetchWord 64 0x1)) = 0x0000000000000002#64 ∧
    statusOf (step (State.reset.withFetchWord 64 0x10001)) = 0x0000000000000012#64 := by decide

/-- V-I4, V-I5, V-I6, V-I7 and V-X5. -/
theorem test_init_under_lock_and_busy :
    statusOf (step (locked.withFetchWord 64 0x1)) = 0x0000000000000002#64 ∧
    statusOf (step (locked.withFetchWord 64 0x11)) = 0x0000000000000300#64 ∧
    statusOf (step (locked.withFetchWord 64 0x20001)) = 0x0000000000000300#64 ∧
    statusOf (step ((absorbing .sha3_224).withFetchWord 64 0x10001)) = 0x0000000000000503#64 ∧
    statusOf (step (State.reset.withFetchWord 64 0x20001)) = 0x0000000000000200#64 := by decide

/-- V-A1, V-A4, V-A6 and V-X7. -/
theorem test_absorb_accepted_or_refused :
    statusOf (step ((started .sha3_256).withFetchWord 64 0x2)) = 0x0000000000000013#64 ∧
    statusOf (step (State.reset.withFetchWord 64 0x2)) = 0x0000000000000300#64 ∧
    statusOf (step ((started .sha3_224).withFetchWord 64 0x102)) = 0x0000000000000102#64 ∧
    statusOf (step ((absorbing .sha3_224).withFetchWord 64 0x2)) = 0x0000000000000503#64 := by decide

/-- ABSORB's STATUS after completion (V-A2), and that the words of seq enter lanes 0, 1 and 16 and not lane 17
under SHA3-256 (41_sponge.md R143; the words are those of 95_test_vectors.md L2.4). -/
theorem test_absorb_completes :
    statusOf (step (absorbing .sha3_256)) = 0x0000000100000012#64 ∧
    (xorBlock zeroLanes (blkBytes seqBlk 136))[0] = 0x0706050403020100#64 ∧
    (xorBlock zeroLanes (blkBytes seqBlk 136))[1] = 0x0F0E0D0C0B0A0908#64 ∧
    (xorBlock zeroLanes (blkBytes seqBlk 136))[16] = 0x8786858483828180#64 ∧
    (xorBlock zeroLanes (blkBytes seqBlk 136))[17] = 0#64 := by decide +kernel

/-- The table of LEN acceptance in 95_test_vectors.md L2.5, and V-X3. -/
theorem test_final_accepted_or_refused :
    statusOf (step ((started .sha3_224).withFetchWord 64 0x8C03)) = 0x0000000000000003#64 ∧
    statusOf (step ((started .sha3_256).withFetchWord 64 0x8C03)) = 0x0000000000000412#64 ∧
    statusOf (step ((started .sha3_256).withFetchWord 64 0x8803)) = 0x0000000000000412#64 ∧
    statusOf (step ((started .sha3_224).withFetchWord 64 0x9003)) = 0x0000000000000402#64 ∧
    statusOf (step (State.reset.withFetchWord 64 0xC803)) = 0x0000000000000300#64 := by decide

/-- V-S3: SHA3-224 of "abc", FINAL 3 pending with BLK[0] = 0x636261. -/
theorem test_final_completes :
    ((stateOf (step { finishing .sha3_224 3#8 with blk := (Vector.replicate 18 0#64).set 0 0x0000000000636261#64 })).lanes.toList.take 4) =
      [0x4AF28C3F4C8242E6#64, 0x6F763C7DEE3492D0#64, 0xAD940C8D16A5A3C9#64, 0x64BC8CB8DF6FB473#64] := by
  decide +kernel

/-- V-P8: acceptance in IDLE, and the ill-formed word under phase ABSORB. -/
theorem test_permute_accepted :
    statusOf (step (State.reset.withFetchWord 64 0x4)) = 0x0000000000000001#64 ∧
    statusOf (step ((started .sha3_224).withFetchWord 64 0x14)) = 0x0000000000000102#64 ∧
    statusOf (step (locked.withFetchWord 64 0x4)) = 0x0000000000000300#64 := by decide

/-- V-P5: PERMUTE of the unit state, lanes 0, 12 and 24, and STATUS (V-P8). -/
theorem test_permute_completes :
    let t := stateOf (step { State.reset with lanes := unitLanes, pend := .permute, busy := true })
    t.lanes[0] = 0xE2A944396F0B13C6#64 ∧ t.lanes[12] = 0x493D4A7A941B2026#64 ∧ t.lanes[24] = 0xF5A843755D5374AF#64 ∧
      t.status = 0#64 := by
  decide +kernel

/-! ## The permutation's steps and the final block -/

/-- V-P3's first row. -/
theorem test_theta_of_unit : (theta unitLanes).toList =
    [1#64, 1#64, 0#64, 0#64, 2#64, 0#64, 1#64, 0#64, 0#64, 2#64, 0#64, 1#64, 0#64, 0#64, 2#64, 0#64, 1#64, 0#64, 0#64,
     2#64, 0#64, 1#64, 0#64, 0#64, 2#64] := by decide +kernel

/-- V-P3's second and third rows: a lane off the diagonal, and lanes that only the right move reaches. -/
theorem test_rho_pi_of_theta :
    (rho (theta unitLanes))[4] = 0x10000000#64 ∧ (rho (theta unitLanes))[24] = 0x8000#64 ∧
    (piStep (rho (theta unitLanes)))[8] = 0x200000000000#64 ∧
    (piStep (rho (theta unitLanes)))[15] = 0x10000000#64 := by decide +kernel

/-- V-P4: two rounds on the zero state. -/
theorem test_two_rounds :
    (rnd (rnd zeroLanes 0) 1).toList =
    [0x8083#64, 0x100000000000#64, 0x8000#64, 0x1#64, 0x100000008000#64, 0#64, 0x200000200000#64, 0#64,
     0x200000000000#64, 0x200000#64, 0x2#64, 0x200#64, 0#64, 0x202#64, 0#64, 0x10000400#64, 0#64, 0x400#64,
     0x10000000#64, 0#64, 0x10000000000#64, 0#64, 0x10000000004#64, 0#64, 0x4#64] := by decide +kernel

/-- The final block rows of 95_test_vectors.md L2.5 at k = r − 2 and k = r − 1 of both variants. -/
theorem test_final_block_last_lane :
    (xorBlock zeroLanes (finalBlockBytes seqBlk .sha3_256 134))[16] = 0x8006858483828180#64 ∧
    (xorBlock zeroLanes (finalBlockBytes seqBlk .sha3_256 135))[16] = 0x8686858483828180#64 ∧
    (xorBlock zeroLanes (finalBlockBytes seqBlk .sha3_224 142))[17] = 0x80068D8C8B8A8988#64 ∧
    (xorBlock zeroLanes (finalBlockBytes seqBlk .sha3_224 143))[17] = 0x868E8D8C8B8A8988#64 := by decide +kernel

/-- The final block row of 95_test_vectors.md L2.5 at k = 0: BLK does not enter. -/
theorem test_final_block_of_no_bytes :
    (xorBlock zeroLanes (finalBlockBytes seqBlk .sha3_256 0))[0] = 0x0000000000000006#64 ∧
    (xorBlock zeroLanes (finalBlockBytes seqBlk .sha3_256 0))[16] = 0x8000000000000000#64 ∧
    (xorBlock zeroLanes (finalBlockBytes seqBlk .sha3_256 0))[1] = 0#64 := by decide +kernel

/-! ## The host window, errors, reset -/

/-- Both ends of every range of the register map (20_memory.md R54). -/
theorem test_register_map :
    regOf 0x00#7 = .cmd ∧ regOf 0x01#7 = .status ∧ regOf 0x02#7 = .reserved ∧ regOf 0x0F#7 = .reserved ∧
    regOf 0x10#7 = .blk 0 ∧ regOf 0x21#7 = .blk 17 ∧ regOf 0x22#7 = .reserved ∧ regOf 0x3F#7 = .reserved ∧
    regOf 0x40#7 = .state 0 ∧ regOf 0x58#7 = .state 24 ∧ regOf 0x59#7 = .reserved ∧ regOf 0x7F#7 = .reserved := by
  decide

/-- V-M1: the bytes of "abc" in BLK. -/
theorem test_blk_write_bytes :
    blkBytes (stateOf (memWrite 0x10#7 0x0000000000636261#64 State.reset)).blk 4 =
      [0x61#8, 0x62#8, 0x63#8, 0x00#8] := by decide

/-- V-M5, V-M6, V-M7, V-M9 and V-M10. -/
theorem test_dropped_writes :
    statusOf (memWrite 0x22#7 0x1#64 State.reset) = 0x0000000000000600#64 ∧
    statusOf (memWrite 0x7F#7 0x1#64 State.reset) = 0x0000000000000600#64 ∧
    statusOf (memWrite 0x01#7 0x0#64 State.reset) = 0x0000000000000600#64 ∧
    statusOf (memWrite 0x40#7 0x5#64 (absorbing .sha3_224)) = 0x0000000000000503#64 ∧
    statusOf (memWrite 0x01#7 0x5#64 (absorbing .sha3_224)) = 0x0000000000000603#64 := by decide

/-- V-M3 and V-M4: reads of CMD and of reserved words are 0, and INIT does not clear BLK. -/
theorem test_reads :
    memRead 0x00#7 State.reset = 0#64 ∧ memRead 0x05#7 State.reset = 0#64 ∧ memRead 0x7F#7 State.reset = 0#64 ∧
    memRead 0x10#7 (stateOf (memWrite 0x00#7 0x1#64 (State.reset.setBlk 0 0x1234#64))) = 0x1234#64 := by decide

/-- V-R1: reset abandons a pending ABSORB and clears BLK. -/
theorem test_reset_abandons_pending :
    stateOf (step { absorbing .sha3_256 with blk := seqBlk, sched := [.reset] }) = State.reset := by decide

/-- P6: both orders of the engine step and the host's write are runs of the machine: the engine first, or the
host first, whose write then raises BUSY_ACCESS (20_memory.md R66; 70_reset_and_hazards.md R234). -/
theorem test_both_orders_admitted :
    statusOf (step { finishing .sha3_256 0#8 with host := [.wr 0x10#7 0x61#64], sched := [.engine] }) = 0x0000000100000014#64 ∧
    statusOf (step { finishing .sha3_256 0#8 with host := [.wr 0x10#7 0x61#64], sched := [.host] }) = 0x0000000000000513#64 := by
  decide

/-- The word packing of `load_block` and the reads of `read_digest` (30_encoding.md R92): seq 9 is one full word
and one byte. -/
theorem test_load_block :
    loadBlock ((List.range 9).map (BitVec.ofNat 8)) =
      [.wr 0x10#7 0x0706050403020100#64, .wr 0x11#7 0x0000000000000008#64] := by decide

/-- P2's transactions, less the reads of the digest. -/
theorem test_digest_program :
    (digestProgram .sha3_224 [0x61#8, 0x62#8, 0x63#8]).take 5 =
      [.wr 0x00#7 0x1#64, .wr 0x10#7 0x0000000000636261#64, .wr 0x00#7 0x0000000000000303#64, .poll, .rd 0x01#7] := by
  decide

/-! ## Witnesses: for each statement with hypotheses, inputs that meet them

One group per clause, at the boundary values of its range. -/

theorem witness_ListedWordsDecodeAsListed : State.reset.busy = false ∧ State.reset.err = .none := by decide

theorem witness_DecodesExactlyWellFormedWords :
    ((0x30001#64).extractLsb 3 0 = 1#4 ∧ (0x30001#64).extractLsb 63 18 = 0#46 ∧ (0x30001#64).extractLsb 15 4 = 0#12) ∧
    ((0x2#64).extractLsb 3 0 = 2#4 ∧ (0x2#64).extractLsb 63 4 = 0#60) ∧
    ((0xFF03#64).extractLsb 3 0 = 3#4 ∧ (0xFF03#64).extractLsb 63 16 = 0#48 ∧ (0xFF03#64).extractLsb 7 4 = 0#4) ∧
    ((0x4#64).extractLsb 3 0 = 4#4 ∧ (0x4#64).extractLsb 63 4 = 0#60) := by decide

theorem witness_MustBeZeroBitsAreEnforced :
    (State.reset.busy = false ∧ State.reset.err = .none) ∧
    ((0x8000000000000001#64).extractLsb 3 0 = 1#4 ∧ (0x8000000000000001#64).extractLsb 63 18 ≠ 0#46) ∧
    ((0x8001#64).extractLsb 3 0 = 1#4 ∧ (0x8001#64).extractLsb 15 4 ≠ 0#12) ∧
    ((0x12#64).extractLsb 3 0 = 2#4 ∧ (0x12#64).extractLsb 63 4 ≠ 0#60) ∧
    ((0x10003#64).extractLsb 3 0 = 3#4 ∧ (0x10003#64).extractLsb 63 16 ≠ 0#48) ∧
    ((0x83#64).extractLsb 3 0 = 3#4 ∧ (0x83#64).extractLsb 7 4 ≠ 0#4) ∧
    ((0x14#64).extractLsb 3 0 = 4#4 ∧ (0x14#64).extractLsb 63 4 ≠ 0#60) ∧
    ((0x102#64).extractLsb 3 0 = 2#4 ∧ (0x102#64).extractLsb 15 8 ≠ 0#8) := by decide

theorem witness_CommandErrorPriority :
    ((absorbing .sha3_224).busy = true ∧ (absorbing .sha3_224).err = .none) ∧
    (locked.busy = false ∧ locked.err ≠ .none ∧ (0x2#64 : Word) ≠ 0x1#64 ∧ (0x2#64 : Word) ≠ 0x10001#64) ∧
    (State.reset.busy = false ∧ State.reset.err = .none ∧ wellFormed 0x30021#64 = false) ∧
    (decode 0x20001#64 = .ok (.init 2#2) ∧ decode 0x30001#64 = .ok (.init 3#2) ∧ 2 ≤ (2#2).toNat) ∧
    (decode 0x2#64 = .ok .absorb ∧ decode 0xC803#64 = .ok (.final 200#8) ∧ State.reset.phase ≠ .absorb) ∧
    (decode 0x8803#64 = .ok (.final 136#8) ∧ (started .sha3_256).phase = .absorb ∧ (started .sha3_256).busy = false ∧
      (started .sha3_256).err = .none ∧ rateBytes (started .sha3_256).var ≤ (136#8).toNat) ∧
    State.reset.phase = .idle := by decide

theorem witness_InitRestartsComputation :
    State.reset.busy = false ∧ locked.busy = false ∧ (1#2 = (1#2 : BitVec 2) ∧ Variant.sha3_256 = .sha3_256) := by decide

theorem witness_AbsorbRunsToCompletion :
    (started .sha3_224).busy = false ∧ (started .sha3_224).err = .none ∧ (started .sha3_224).phase = .absorb := by decide

/-- LEN 0 and the largest LEN of each variant. -/
theorem witness_FinalRunsToCompletion :
    ((started .sha3_224).busy = false ∧ (started .sha3_224).err = .none ∧ (started .sha3_224).phase = .absorb ∧
      (0#8).toNat < rateBytes (started .sha3_224).var ∧ (143#8).toNat < rateBytes (started .sha3_224).var) ∧
    ((started .sha3_256).busy = false ∧ (started .sha3_256).err = .none ∧ (started .sha3_256).phase = .absorb ∧
      (135#8).toNat < rateBytes (started .sha3_256).var) := by decide

theorem witness_PermuteRunsToCompletion : State.reset.busy = false ∧ State.reset.err = .none := by decide

theorem witness_RefusedCommandsChangeOnlyErr :
    (absorbing .sha3_224).busy = true ∧
    (locked.busy = false ∧ locked.err ≠ .none ∧ Instr.init 2#2 ≠ .init 0#2 ∧ Instr.init 2#2 ≠ .init 1#2) ∧
    (State.reset.busy = false ∧ State.reset.err = .none ∧ 2 ≤ (2#2).toNat ∧ 2 ≤ (3#2).toNat) ∧
    (State.reset.phase ≠ .absorb ∧ (stateOf (step (finishing .sha3_224 0#8))).phase ≠ .absorb) ∧
    ((started .sha3_224).busy = false ∧ (started .sha3_224).err = .none ∧ (started .sha3_224).phase = .absorb ∧
      rateBytes (started .sha3_224).var ≤ (144#8).toNat) ∧
    ((started .sha3_256).busy = false ∧ (started .sha3_256).err = .none ∧ (started .sha3_256).phase = .absorb ∧
      (started .sha3_256).var = .sha3_256) := by decide

theorem witness_ThetaFormula : ∃ C D : Nat → Word,
    (∀ x, x < 5 → C x = (unitLanes[x]?).getD 0#64 ^^^ (unitLanes[x + 5]?).getD 0#64 ^^^ (unitLanes[x + 10]?).getD 0#64 ^^^
      (unitLanes[x + 15]?).getD 0#64 ^^^ (unitLanes[x + 20]?).getD 0#64) ∧
    (∀ x, x < 5 → D x = C ((x + 4) % 5) ^^^ rotl (C ((x + 1) % 5)) 1) ∧ D 1 = 1#64 ∧ D 4 = 2#64 :=
  ⟨fun x => if x = 0 then 1#64 else 0#64, fun x => if x = 1 then 1#64 else if x = 4 then 2#64 else 0#64, by decide⟩

/-- Two states that agree on bit 0 and on bit 63 of every lane, and differ. -/
theorem witness_ThetaAndChiAreBitwise :
    (∀ i : Fin 25, (zeroLanes)[i.val].getLsbD 0 = (zeroLanes.set 3 0x20#64)[i.val].getLsbD 0 ∧
      (zeroLanes)[i.val].getLsbD 63 = (zeroLanes.set 3 0x20#64)[i.val].getLsbD 63) ∧
    zeroLanes ≠ zeroLanes.set 3 0x20#64 := by decide

theorem witness_StepMappingExamples :
    (∀ x : Fin 5, laneXY zeroLanes x 4 = 0#64) ∧
    (∀ x : Fin 5, laneXY (Vector.replicate 25 0xFFFFFFFFFFFFFFFF#64) x 4 = 0xFFFFFFFFFFFFFFFF#64) := by decide

/-- A message of rate − 1 bytes has one pad byte, a message of rate bytes a whole block of them, and the clauses
on a length that is a multiple of the rate hold of the empty message too. -/
theorem witness_PaddingIsPad10Star1 :
    ((pad (List.replicate 143 0x00#8) 144).length = 144 ∧ (pad (List.replicate 144 0x00#8) 144).length = 288) ∧
    ((144 : Nat) % 144 = 0 ∧ ([] : List Byte).length % 144 = 0 ∧ ([] : List Byte).length < 144) := by decide +kernel

theorem witness_FinalBlockLayout :
    0 < rateBytes .sha3_224 ∧ 143 < rateBytes .sha3_224 ∧ 135 < rateBytes .sha3_256 ∧
    (finalBlockBytes seqBlk .sha3_256 135)[135]? = some 0x86#8 ∧ (finalBlockBytes seqBlk .sha3_256 134)[134]? = some 0x06#8 ∧
    (finalBlockBytes seqBlk .sha3_256 134)[135]? = some 0x80#8 ∧ (finalBlockBytes seqBlk .sha3_256 133)[134]? = some 0x00#8 ∧
    (finalBlockBytes seqBlk .sha3_256 133)[132]? = some 0x84#8 := by decide

theorem witness_AbsorbXorsIntoRatePart :
    (List.replicate 144 0x5A#8).length = rateBytes .sha3_224 ∧ (List.replicate 136 0x5A#8).length = rateBytes .sha3_256 := by
  decide +kernel

/-- Two buffers that differ at byte 4 only, with FINAL 4 pending. -/
theorem witness_FinalIgnoresBytesPastLen :
    (finishing .sha3_256 4#8).pend = .final 4#8 ∧ (4#8).toNat < rateBytes (finishing .sha3_256 4#8).var ∧
    (∀ j : Fin 144, j.val < (4#8).toNat → blkByte (seqBlk.set 0 0x070605FF03020100#64) j = blkByte seqBlk j) ∧
    blkByte (seqBlk.set 0 0x070605FF03020100#64) 4 ≠ blkByte seqBlk 4 := by decide +kernel

/-- Two buffers that differ in BLK[17] only, under SHA3-256. -/
theorem witness_AbsorbIgnoresWordsPastRate :
    (absorbing .sha3_256).pend = .absorb ∧
    (∀ j : Fin 18, j.val < rateBytes (absorbing .sha3_256).var / 8 → (seqBlk.set 17 0#64)[j.val] = seqBlk[j.val]) ∧
    seqBlk.set 17 0#64 ≠ seqBlk := by decide

theorem witness_InitStartsDigest : State.reset.busy = false := by decide

/-- INIT leaves no block absorbed, of any message. -/
theorem started_hasAbsorbed (v : Variant) (m : List Byte) : (started v).HasAbsorbed v m 0 :=
  ⟨rfl, rfl, rfl, rfl, rfl, rfl⟩

/-- A message of one block of zero bytes, in a buffer that holds zero words. -/
theorem witness_AbsorbExtendsDigest (v : Variant) :
    (started v).HasAbsorbed v (List.replicate (rateBytes v) 0x00#8) 0 ∧
    (0 + 1) * rateBytes v ≤ (List.replicate (rateBytes v) 0x00#8).length ∧
    blkBytes (started v).blk (rateBytes v) = blockAt (List.replicate (rateBytes v) 0x00#8) (rateBytes v) 0 := by
  refine ⟨started_hasAbsorbed v _, ?_, ?_⟩ <;> cases v <;> decide +kernel

/-- The empty message, and "abc" with its bytes in BLK[0]. -/
theorem witness_FinalYieldsDigest (v : Variant) :
    ((started v).HasAbsorbed v [] (([] : List Byte).length / rateBytes v) ∧
      blkBytes (started v).blk (([] : List Byte).length % rateBytes v) =
        ([] : List Byte).drop (([] : List Byte).length / rateBytes v * rateBytes v)) ∧
    ({ started v with blk := (Vector.replicate 18 0#64).set 0 0x0000000000636261#64 }.HasAbsorbed v
        [0x61#8, 0x62#8, 0x63#8] ([0x61#8, 0x62#8, 0x63#8].length / rateBytes v) ∧
      blkBytes ((Vector.replicate 18 0#64).set 0 0x0000000000636261#64) ([0x61#8, 0x62#8, 0x63#8].length % rateBytes v) =
        [0x61#8, 0x62#8, 0x63#8].drop ([0x61#8, 0x62#8, 0x63#8].length / rateBytes v * rateBytes v)) := by
  cases v <;>
    exact ⟨⟨started_hasAbsorbed _ _, by decide +kernel⟩, ⟨rfl, rfl, rfl, rfl, rfl, rfl⟩, by decide +kernel⟩

theorem witness_DigestReadOut : State.reset.busy = false := by decide

/-- Reads at both ends of each range, and a read of STATE while BUSY = 1, which returns the next draw. -/
theorem witness_ReadTransactions :
    ({ State.reset with host := [.rd 0x58#7, .poll] }).host = .rd 0x58#7 :: [.poll] ∧
    ((absorbing .sha3_224).busy = true ∧ State.reset.busy = false) ∧
    ((0x10 ≤ (0x10#7).toNat ∧ (0x21#7).toNat ≤ 0x21) ∧ (0x40 ≤ (0x40#7).toNat ∧ (0x58#7).toNat ≤ 0x58)) ∧
    ((0x02 ≤ (0x02#7).toNat ∧ (0x0F#7).toNat ≤ 0x0F) ∧ (0x22 ≤ (0x22#7).toNat ∧ (0x3F#7).toNat ≤ 0x3F) ∧
      0x59 ≤ (0x59#7).toNat ∧ 0x59 ≤ (0x7F#7).toNat) := by decide

/-- A read of STATE[0] and of STATE[24] while BUSY = 1 returns a draw (95_test_vectors.md V-M8). -/
theorem test_busy_state_read_is_draw :
    memRead 0x40#7 (absorbing .sha3_256) = Config.draw 0 ∧ memRead 0x58#7 (absorbing .sha3_256) = Config.draw 0 :=
  ⟨rfl, rfl⟩

theorem witness_WriteTransactions :
    (0x00#7).toNat = 0x00 ∧ ((0x10#7).toNat = 0x10 + (0 : Fin 18).val ∧ (0x21#7).toNat = 0x10 + (17 : Fin 18).val) ∧
    ((0x40#7).toNat = 0x40 + (0 : Fin 25).val ∧ (0x58#7).toNat = 0x40 + (24 : Fin 25).val) ∧
    ((0x01#7).toNat = 0x01 ∧ (0x02 ≤ (0x02#7).toNat ∧ (0x0F#7).toNat ≤ 0x0F) ∧
      (0x22 ≤ (0x22#7).toNat ∧ (0x3F#7).toNat ≤ 0x3F) ∧ 0x59 ≤ (0x59#7).toNat ∧ 0x59 ≤ (0x7F#7).toNat) := by decide

theorem witness_BusyWritesAreDropped :
    (absorbing .sha3_224).busy = true ∧ (0x00#7).toNat = 0x00 ∧
    (0x10 ≤ (0x10#7).toNat ∧ (0x21#7).toNat ≤ 0x21) ∧ (0x40 ≤ (0x40#7).toNat ∧ (0x58#7).toNat ≤ 0x58) := by decide

theorem witness_WrittenWordReadsBack :
    State.reset.busy = false ∧ (0x10 ≤ (0x21#7).toNat ∧ (0x21#7).toNat ≤ 0x21) ∧
    (0x40 ≤ (0x58#7).toNat ∧ (0x58#7).toNat ≤ 0x58) ∧ (0x20#7 : WordIndex) ≠ 0x21#7 := by decide

/-- The last lane and the last buffer word: the clauses' ranges of bytes at their upper end. -/
theorem witness_HostWritesStoreOnlyTheirBytes :
    State.reset.busy = false ∧ (8 * (24 : Fin 25).val ≤ (199 : Fin 200).val ∧ (199 : Fin 200).val < 8 * (24 : Fin 25).val + 8) ∧
    (8 * (17 : Fin 18).val ≤ (143 : Fin 144).val ∧ (143 : Fin 144).val < 8 * (17 : Fin 18).val + 8) := by decide

theorem witness_ErrorRecordsOnlyItsCode :
    hostMove (.wr 0x01#7 0x5#64) (absorbing .sha3_224) = .next { absorbing .sha3_224 with err := .badAddress } ∧
    Err.badAddress ≠ (absorbing .sha3_224).err ∧ Err.badAddress ≠ .none := ⟨rfl, by decide, by decide⟩

/-- The last clause's witness is a locked block in phase DONE whose host has nothing to do. -/
theorem witness_ErrorLock :
    (locked.err ≠ .none ∧ locked.busy = false ∧ (0x2#64 : Word) ≠ 0x1#64 ∧ (0x2#64 : Word) ≠ 0x10001#64) ∧
    (step { locked with phase := .done } = .next { locked with phase := .done } ∧ { locked with phase := .done }.err ≠ .none) :=
  ⟨by decide, rfl, by decide⟩

/-- A locked block that INIT releases, one that reset releases, and a busy write. -/
theorem witness_ErrorClearedOnlyByInitOrReset :
    (step (locked.withFetchWord 64 0x10001) = .next (locked.doInit .sha3_256) ∧ locked.err ≠ .none) ∧
    step { locked with sched := [.reset] } = .next State.reset ∧
    ((absorbing .sha3_224).busy = true ∧
      memWrite 0x01#7 0x5#64 (absorbing .sha3_224) = .next { absorbing .sha3_224 with err := .badAddress }) :=
  ⟨⟨rfl, by decide⟩, rfl, by decide, rfl⟩

theorem witness_StepRunsDecodedCommand :
    ({ State.reset with host := [.wr 0x00#7 0x4#64, .poll], sched := [.host, .engine] }.host =
        .wr 0x00#7 0x4#64 :: [.poll] ∧ decode 0x4#64 = .ok .permute) ∧
    ({ State.reset with host := [.wr 0x00#7 0x4#64], sched := [] }.sched = [] ∧ State.reset.busy = false) ∧
    decodeTableWord 64 0x8F03 = some (.final 143#8) := by decide

theorem witness_EngineStepCompletesPending :
    State.reset.busy = false ∧
    ((absorbing .sha3_224).busy = true ∧ { absorbing .sha3_224 with sched := [.engine, .host] }.sched = .engine :: [.host]) ∧
    (absorbing .sha3_224).pend = .absorb ∧ (finishing .sha3_256 135#8).pend = .final 135#8 ∧
    { State.reset with pend := .permute, busy := true }.pend = .permute := by decide

theorem witness_ResetAtAnyTurn :
    { absorbing .sha3_224 with sched := [.reset, .host] }.sched = .reset :: [.host] := by decide

/-- VAR changes in reset, in an INIT of SHA3-224 and in an INIT of SHA3-256. -/
theorem witness_VarWrittenOnlyByInitOrReset :
    (step { started .sha3_256 with sched := [.reset] } = .next State.reset ∧ State.reset.var ≠ (started .sha3_256).var) ∧
    (step ((started .sha3_256).withFetchWord 64 0x1) = .next (started .sha3_224) ∧
      (started .sha3_224).var ≠ (started .sha3_256).var) ∧
    step (State.reset.withFetchWord 64 0x10001) = .next (started .sha3_256) :=
  ⟨⟨rfl, by decide⟩, ⟨rfl, by decide⟩, rfl⟩

/-- A state that meets the invariant, and the step that completes its pending FINAL. -/
theorem finishing_inv : (finishing .sha3_256 135#8).Inv := by
  constructor <;> decide

/-- PHASE changes in reset, in INIT and in FINAL's completion. -/
theorem witness_PhaseTransitions :
    ((finishing .sha3_256 135#8).Inv ∧
      step (finishing .sha3_256 135#8) = .next (engineStep (finishing .sha3_256 135#8)) ∧
      (engineStep (finishing .sha3_256 135#8)).phase ≠ (finishing .sha3_256 135#8).phase) ∧
    (step { finishing .sha3_256 135#8 with sched := [.reset] } = .next State.reset ∧
      State.reset.phase ≠ (finishing .sha3_256 135#8).phase) ∧
    (step (State.reset.withFetchWord 64 0x10001) = .next (started .sha3_256) ∧
      (started .sha3_256).phase ≠ State.reset.phase) :=
  ⟨⟨finishing_inv, rfl, by decide⟩, ⟨rfl, by decide⟩, rfl, by decide⟩

/-- A host write to the last lane and one to the last buffer word. -/
theorem witness_LanesAndBufferWriters :
    (step { State.reset with host := [.wr 0x58#7 0x5#64], sched := [.host] } =
        .next { State.reset with lanes := zeroLanes.set 24 0x5#64 } ∧ zeroLanes.set 24 0x5#64 ≠ State.reset.lanes) ∧
    (step { State.reset with host := [.wr 0x21#7 0x5#64], sched := [.host] } =
        .next { State.reset with blk := (Vector.replicate 18 0#64).set 17 0x5#64 } ∧
      (Vector.replicate 18 0#64).set 17 0x5#64 ≠ State.reset.blk) :=
  ⟨⟨rfl, by decide⟩, rfl, by decide⟩

/-- The counter at its largest value, which wraps, and a counter that INIT clears. -/
theorem witness_BlocksCounterWriters :
    (step { absorbing .sha3_224 with blocks := 0xFFFFFFFF#32 } =
        .next (engineStep { absorbing .sha3_224 with blocks := 0xFFFFFFFF#32 }) ∧
      (engineStep { absorbing .sha3_224 with blocks := 0xFFFFFFFF#32 }).blocks = 0#32) ∧
    (step ({ started .sha3_224 with blocks := 7#32 }.withFetchWord 64 0x1) = .next (started .sha3_224) ∧
      (started .sha3_224).blocks ≠ 7#32) :=
  ⟨⟨rfl, by decide⟩, rfl, by decide⟩

theorem witness_BusyRisesAndFalls :
    (step ((started .sha3_224).withFetchWord 64 0x2) = .next (absorbing .sha3_224) ∧
      (started .sha3_224).busy = false ∧ (absorbing .sha3_224).busy = true) ∧
    (step (absorbing .sha3_224) = .next (engineStep (absorbing .sha3_224)) ∧
      (engineStep (absorbing .sha3_224)).busy = false) :=
  ⟨⟨rfl, by decide, by decide⟩, rfl, by decide⟩

/-- A busy block whose host writes to BLK: neither the engine's move nor reset. -/
theorem witness_OperandsFrozenWhileBusy :
    (absorbing .sha3_224).busy = true ∧
    step { absorbing .sha3_224 with host := [.wr 0x10#7 0x5#64], sched := [.host] } =
      .next { absorbing .sha3_224 with err := .busyAccess } ∧
    { absorbing .sha3_224 with host := [.wr 0x10#7 0x5#64], sched := [.host] }.nextMove ≠ .engine ∧
    { absorbing .sha3_224 with host := [.wr 0x10#7 0x5#64], sched := [.host] }.nextMove ≠ .reset :=
  ⟨by decide, rfl, by decide, by decide⟩

theorem witness_PollWaitsForCompletion :
    { absorbing .sha3_224 with host := [.poll, .rd 0x01#7] }.host = .poll :: [.rd 0x01#7] := by decide

theorem witness_PendingCommandCompletes :
    { absorbing .sha3_224 with host := [.poll], sched := [.host, .host] }.busy = true := by decide

/-- A reachable state that is not the reset state, and a step from it. -/
theorem witness_StepKeepsInvariant :
    (finishing .sha3_256 135#8).Inv ∧ step (finishing .sha3_256 135#8) = .next (engineStep (finishing .sha3_256 135#8)) :=
  ⟨finishing_inv, rfl⟩

end Sys2Proof.Tests
end

