-- ==== Sys2Proof/Proofs/Scope.lean ====
section
/-! The bit rule of ROTL (00_scope.md R11). -/

namespace Sys2Proof.Machine

/-- The library reads a rotated bit by cases, on whether the bit wrapped around; the modulus of R11 joins them. -/
theorem getLsbD_rotl (a : Word) {n i : Nat} (hn : n < 64) (hi : i < 64) :
    (rotl a n).getLsbD i = a.getLsbD ((i + 64 - n) % 64) := by
  rw [rotl, BitVec.getLsbD_rotateLeft, Nat.mod_eq_of_lt hn]
  obtain wrapped | notWrapped := Nat.lt_or_ge i n
  · have source : (i + 64 - n) % 64 = 64 - n + i := by omega
    simp [wrapped, source]
  · have source : (i + 64 - n) % 64 = i - n := by omega
    simp [notWrapped.not_gt, hi, source]

@[simp] theorem rotl_zero (a : Word) : rotl a 0 = a :=
  BitVec.eq_of_getLsbD_eq fun i hi => by
    rw [getLsbD_rotl a (by decide) hi, Nat.sub_zero, Nat.add_mod_right, Nat.mod_eq_of_lt hi]

/-- Settles O12. -/
theorem rotlMovesBitsUp : Obligations.RotlMovesBitsUp :=
  ⟨fun a _ _ hn hi => getLsbD_rotl a hn hi, rotl_zero⟩

end Sys2Proof.Machine
end

/-! The state of the block (10_state.md): its byte view, its STATUS word, who writes each register, and the
invariant of reachable states. What a step does to the registers is said once, in `RegsEffect`. -/

namespace Sys2Proof

/-- The decoder reads each command from that command's own word. -/
theorem eq_encode_of_decode {w : Word} {i : Instr} (h : decode w = .ok i) : w = encode i := by
  unfold decode at h
  split at h
  case isTrue hw => cases h; exact word_of_initMask w hw
  split at h
  case isTrue hw => cases h; rwa [and_fullMask] at hw
  split at h
  case isTrue hw => cases h; exact word_of_finalMask w hw
  split at h
  case isTrue hw => cases h; rwa [and_fullMask] at hw
  split at h <;> cases h

/-- The word of a command decodes to that command. -/
theorem decode_encode (i : Instr) : decode (encode i) = .ok i := by
  cases i with
  | init var => decide +revert
  | absorb => decide
  | final len => decide +revert
  | permute => decide

end Sys2Proof

namespace Sys2Proof.Machine

/-! ## The byte view of the lanes -/

/-- Byte m of a word as a number. -/
theorem byteOf_eq_ofNat (w : Word) (m : Nat) : byteOf w m = BitVec.ofNat 8 (w.toNat / 2 ^ (8 * m)) := by
  rw [← Nat.shiftRight_eq_div_pow]
  rfl

@[simp] theorem lanesOfBytes_stateByte (a : Lanes) : lanesOfBytes (stateByte a) = a :=
  lanes_ext_bytes fun j => stateByte_lanesOfBytes (stateByte a) j

/-- Settles O23, by the two byte-view laws and the bytes of a word as numbers. -/
theorem byteViewIsTheState : Obligations.ByteViewIsTheState :=
  ⟨fun a i m => (stateByte_at a i m).trans (byteOf_eq_ofNat _ _), stateByte_lanesOfBytes, lanesOfBytes_stateByte⟩

/-! ## The STATUS word -/

/-- VAR holds no reserved code (10_state.md R25). -/
theorem Variant.code_toNat_le (v : Variant) : v.code.toNat ≤ 1 := by cases v <;> decide

/-- PHASE never holds the code 3 (10_state.md R27). -/
theorem Phase.code_ne_three (p : Phase) : p.code ≠ 3#2 := by cases p <;> decide

/-- ERR holds no code from 7 on (60_exceptions.md R200). -/
theorem Err.code_toNat_le (e : Err) : e.code.toNat ≤ 6 := by cases e <;> decide

theorem status_toNat (s : State) : s.status.toNat = s.blocks.toNat * 2 ^ 32 + s.err.code.toNat * 2 ^ 8 +
    s.var.code.toNat * 2 ^ 4 + s.phase.code.toNat * 2 ^ 1 + s.busy.toNat := by
  unfold State.status
  simp only [toNat_append_add, BitVec.toNat_ofNat, BitVec.toNat_ofBool]
  omega

/-- A range of bits of STATUS is `x` when the number of R34 says so. -/
theorem status_slice (s : State) (lo n : Nat) (x : BitVec n) (h : s.status.toNat / 2 ^ lo % 2 ^ n = x.toNat) :
    s.status.extractLsb' lo n = x :=
  BitVec.eq_of_toNat_eq (by rw [BitVec.extractLsb'_toNat, Nat.shiftRight_eq_div_pow, h])

/-- Settles O36: each field's range is read off the number. -/
theorem statusWordLayout : Obligations.StatusWordLayout := by
  intro s
  have number := status_toNat s
  have hbusy := s.busy.toNat_le
  have hphase := s.phase.code.isLt
  have hvar := s.var.code.isLt
  have herr := s.err.code.isLt
  have hblocks := s.blocks.isLt
  refine ⟨number, ?_, ?_, ?_, ?_, ?_, ?_, ?_, ?_, s.phase.code_ne_three, s.var.code_toNat_le, s.err.code_toNat_le⟩
  all_goals
    apply status_slice
    simp only [number, BitVec.toNat_ofBool, BitVec.toNat_ofNat]
    omega

/-- The fields of STATUS show legal codes only (10_state.md R41 (d), (e)), in every state. -/
theorem status_shows_legal_codes (s : State) : s.status.extractLsb' 1 2 ≠ 3#2 ∧
    (s.status.extractLsb' 4 2).toNat ≤ 1 ∧ (s.status.extractLsb' 8 4).toNat ≤ 6 := by
  obtain ⟨-, -, hphase, -, hvar, -, herr, -, -, phaseLegal, varLegal, errLegal⟩ := statusWordLayout s
  exact ⟨fun h => phaseLegal (hphase.symm.trans h), (congrArg BitVec.toNat hvar).trans_le varLegal,
    (congrArg BitVec.toNat herr).trans_le errLegal⟩

/-! ## What a step does to the registers -/

/-- The two states agree in every register but ERR: `t` may differ in ERR, in the host and its replies, in the
turns and in the draws. -/
structure State.SameRegs (s t : State) : Prop where
  lanes : t.lanes = s.lanes
  blk : t.blk = s.blk
  var : t.var = s.var
  phase : t.phase = s.phase
  busy : t.busy = s.busy
  pend : t.pend = s.pend
  blocks : t.blocks = s.blocks

/-- The commands a state accepts, by what PEND then holds (10_state.md R29). -/
inductive Accepts (s : State) : Instr → Pend → Prop where
  | absorb (hphase : s.phase = .absorb) : Accepts s .absorb .absorb
  | final (len : BitVec 8) (hphase : s.phase = .absorb) (hlen : len.toNat < rateBytes s.var) :
      Accepts s (.final len) (.final len)
  | permute : Accepts s .permute .permute

/-- What one step can do to the registers other than ERR. -/
inductive RegsEffect (s : State) : State → Prop where
  /-- A step with no effect: an idle step, a read, a poll, or a write that is dropped or refused. -/
  | kept : RegsEffect s s
  | lane (widx : WordIndex) (v : Word) (i : Fin 25) (hm : s.nextMove = .host (.wr widx v))
      (hi : widx.toNat = 0x40 + i.val) (hb : s.busy = false) : RegsEffect s (s.setLane i v)
  | blkWord (widx : WordIndex) (v : Word) (j : Fin 18) (hm : s.nextMove = .host (.wr widx v))
      (hj : widx.toNat = 0x10 + j.val) (hb : s.busy = false) : RegsEffect s (s.setBlk j v)
  | inited (v : Variant) (hm : s.nextMove = .host (.cmd (initOf v))) (hb : s.busy = false) : RegsEffect s (s.doInit v)
  | accepted (i : Instr) (p : Pend) (hm : s.nextMove = .host (.cmd i)) (hb : s.busy = false)
      (he : s.err = .none) (ha : Accepts s i p) : RegsEffect s (s.accept p)
  | engine (hm : s.nextMove = .engine) : RegsEffect s (engineStep s)
  | reset (hm : s.nextMove = .reset) : RegsEffect s State.reset

theorem eq_code_of_variantOfCode {code : BitVec 2} {v : Variant} (h : variantOfCode code = some v) :
    code = v.code := by
  revert h
  obtain rfl | rfl | rfl | rfl := varCode_cases code <;> cases v <;> decide

theorem toNat_of_regOf_blk {widx : WordIndex} {j : Fin 18} (h : regOf widx = .blk j) : widx.toNat = 0x10 + j.val := by
  simpa [h] using regOf_cases widx

theorem toNat_of_regOf_state {widx : WordIndex} {i : Fin 25} (h : regOf widx = .state i) :
    widx.toNat = 0x40 + i.val := by
  simpa [h] using regOf_cases widx

/-- The engine step does not read the turns. -/
theorem engineStep_popSched (s : State) : engineStep s.popSched = (engineStep s).popSched := by
  unfold engineStep
  rw [State.popSched_pend]
  cases s.pend <;> rfl

/-- What a host write does to the registers, read off `WriteEffect` and `CmdEffect`. -/
theorem regsEffect_of_writeEffect {s t : State} {widx : WordIndex} {v : Word}
    (hm : s.nextMove = .host (.wr widx v)) (h : WriteEffect widx v s.popSched.popHost t) :
    ∃ u, RegsEffect s u ∧ u.SameRegs t := by
  cases h with
  | refused => exact ⟨s, .kept, by constructor <;> rfl⟩
  | blk j hr hb => exact ⟨_, .blkWord widx v j hm (toNat_of_regOf_blk hr) hb, by constructor <;> rfl⟩
  | state i hr hb => exact ⟨_, .lane widx v i hm (toNat_of_regOf_state hr) hb, by constructor <;> rfl⟩
  | command t hr hc =>
    cases eq_zero_of_regOf_cmd hr
    cases hc with
    | refused | locked => exact ⟨s, .kept, by constructor <;> rfl⟩
    | inited code variant hb hd hv =>
      cases eq_encode_of_decode hd
      cases eq_code_of_variantOfCode hv
      exact ⟨_, .inited variant hm hb, by constructor <;> rfl⟩
    | absorbing hb he hd hp =>
      cases eq_encode_of_decode hd
      exact ⟨_, .accepted _ _ hm hb he (.absorb hp), by constructor <;> rfl⟩
    | finishing len hb he hd hp hl =>
      cases eq_encode_of_decode hd
      exact ⟨_, .accepted _ _ hm hb he (.final len hp hl), by constructor <;> rfl⟩
    | permuting hb he hd =>
      cases eq_encode_of_decode hd
      exact ⟨_, .accepted _ _ hm hb he .permute, by constructor <;> rfl⟩

/-- The registers after every step, but for ERR, are those that one of the effects leaves. -/
theorem regsEffect_of_step {s t : State} (h : step s = .next t) : ∃ u, RegsEffect s u ∧ u.SameRegs t := by
  cases effect_of_step h with
  | idle | rd | pollAgain | pollDone => exact ⟨s, .kept, by constructor <;> rfl⟩
  | wr widx v t hm hw => exact regsEffect_of_writeEffect hm hw
  | reset hm => exact ⟨State.reset, .reset hm, by constructor <;> rfl⟩
  | engine hm => exact ⟨engineStep s, .engine hm, by rw [engineStep_popSched]; constructor <;> rfl⟩

/-! ## Who writes each register -/

/-- The two words of an accepted INIT. -/
theorem encode_initOf (v : Variant) :
    encode (initOf v) = 0x0000000000000001#64 ∨ encode (initOf v) = 0x0000000000010001#64 := by
  cases v <;> decide

/-- Settles O50. -/
theorem varWrittenOnlyByInitOrReset : Obligations.VarWrittenOnlyByInitOrReset := by
  intro s t h changed
  obtain ⟨u, effect, same⟩ := regsEffect_of_step h
  rw [same.var] at changed ⊢
  cases effect with
  | inited v hm hb =>
    cases v with
    | sha3_224 => exact .inr (.inl ⟨hb, rfl, hm⟩)
    | sha3_256 => exact .inr (.inr ⟨hb, rfl, hm⟩)
  | reset hm => exact .inl ⟨hm, rfl⟩
  | engine => exact absurd (engineStep_var s) changed
  | kept | lane | blkWord | accepted => exact absurd rfl changed

/-- Only the completion of FINAL changes PHASE (10_state.md R31). -/
theorem pend_of_engineStep_phase_ne {s : State} (h : (engineStep s).phase ≠ s.phase) :
    ∃ len, s.pend = .final len ∧ (engineStep s).phase = .done := by
  cases hp : s.pend with
  | final len => exact ⟨len, rfl, by rw [engineStep_final s len hp]; rfl⟩
  | none => exact absurd (by rw [engineStep_none s hp]; rfl) h
  | absorb => exact absurd (by rw [engineStep_absorb s hp]; rfl) h
  | permute => exact absurd (by rw [engineStep_permute s hp]; rfl) h

/-- Settles O51: the invariant puts a pending FINAL in phase ABSORB. -/
theorem phaseTransitions : Obligations.PhaseTransitions := by
  intro s t inv h changed
  obtain ⟨u, effect, same⟩ := regsEffect_of_step h
  rw [same.phase] at changed ⊢
  cases effect with
  | inited v hm hb => exact .inr (.inl ⟨rfl, hb, _, encode_initOf v, hm⟩)
  | reset hm => exact .inl ⟨hm, rfl⟩
  | engine hm =>
    obtain ⟨len, hp, hdone⟩ := pend_of_engineStep_phase_ne changed
    exact .inr (.inr ⟨hm, ⟨len, hp⟩, (inv.final_in_range len hp).2, hdone⟩)
  | kept | lane | blkWord | accepted => exact absurd rfl changed

/-- Settles O52. -/
theorem lanesAndBufferWriters : Obligations.LanesAndBufferWriters := by
  intro s t h
  obtain ⟨u, effect, same⟩ := regsEffect_of_step h
  rw [same.lanes, same.blk]
  cases effect with
  | kept | accepted => exact ⟨absurd rfl, absurd rfl⟩
  | lane widx v i hm hi hb =>
    exact ⟨fun _ => .inr (.inr ⟨hb, widx, v, hm, .inr ⟨i, hi, rfl⟩⟩), absurd rfl⟩
  | blkWord widx v j hm hj hb => exact ⟨absurd rfl, fun _ => .inr ⟨hb, widx, v, hm, j, hj, rfl⟩⟩
  | inited v hm hb => exact ⟨fun _ => .inr (.inr ⟨hb, _, _, hm, .inl ⟨rfl, encode_initOf v⟩⟩), absurd rfl⟩
  | engine hm => exact ⟨fun _ => .inr (.inl ⟨hm, busy_of_nextMove_engine hm⟩), absurd (engineStep_blk s)⟩
  | reset hm => exact ⟨fun _ => .inl hm, fun _ => .inl hm⟩

/-- Only the completions of ABSORB and FINAL change BLOCKS (10_state.md R31, R32). -/
theorem pend_of_engineStep_blocks_ne {s : State} (h : (engineStep s).blocks ≠ s.blocks) :
    (s.pend = .absorb ∨ ∃ len, s.pend = .final len) ∧ (engineStep s).blocks = s.blocks + 1#32 := by
  cases hp : s.pend with
  | absorb => exact ⟨.inl rfl, by rw [engineStep_absorb s hp]; rfl⟩
  | final len => exact ⟨.inr ⟨len, rfl⟩, by rw [engineStep_final s len hp]; rfl⟩
  | none => exact absurd (by rw [engineStep_none s hp]; rfl) h
  | permute => exact absurd (by rw [engineStep_permute s hp]; rfl) h

/-- Settles O53. -/
theorem blocksCounterWriters : Obligations.BlocksCounterWriters := by
  intro s t h changed
  obtain ⟨u, effect, same⟩ := regsEffect_of_step h
  rw [same.blocks] at changed ⊢
  cases effect with
  | inited v hm hb => exact .inl ⟨rfl, .inr ⟨hb, _, encode_initOf v, hm⟩⟩
  | reset hm => exact .inl ⟨rfl, .inl hm⟩
  | engine hm =>
    obtain ⟨hp, counted⟩ := pend_of_engineStep_blocks_ne changed
    exact .inr ⟨hm, hp, by rw [counted, BitVec.toNat_add]; rfl⟩
  | kept | lane | blkWord | accepted => exact absurd rfl changed

/-- Settles O54. -/
theorem busyRisesAndFalls : Obligations.BusyRisesAndFalls := by
  intro s t h
  obtain ⟨u, effect, same⟩ := regsEffect_of_step h
  rw [same.busy, same.pend]
  cases effect with
  | accepted i p hm hb he ha =>
    refine ⟨fun _ _ => ⟨he, encode i, i, hm, decode_encode i, ?_⟩, fun high _ => (nomatch hb.symm.trans high)⟩
    cases ha with
    | absorb => exact .inl ⟨rfl, rfl⟩
    | final len => exact .inr (.inl ⟨len, rfl, rfl⟩)
    | permute => exact .inr (.inr ⟨rfl, rfl⟩)
  | engine hm => exact ⟨fun _ rose => (nomatch (engineStep_busy s).symm.trans rose), fun _ _ => .inl hm⟩
  | reset hm => exact ⟨fun _ rose => (nomatch rose), fun _ _ => .inr hm⟩
  | kept | lane | blkWord | inited =>
    exact ⟨fun low rose => (nomatch low.symm.trans rose), fun high fell => (nomatch high.symm.trans fell)⟩

/-! ## The invariant of reachable states -/

/-- The clauses of R41 that a step could break are those on PEND: the others hold in every state. -/
theorem inv_of_pend {s : State} (busy_iff : s.busy = true ↔ s.pend ≠ .none)
    (final_ok : ∀ len, s.pend = .final len → len.toNat < rateBytes s.var ∧ s.phase = .absorb)
    (absorb_ok : s.pend = .absorb → s.phase = .absorb) : s.Inv := by
  obtain ⟨phaseLegal, varLegal, errLegal⟩ := status_shows_legal_codes s
  exact {
    rate_and_capacity := by cases s.var <;> rfl
    busy_iff_pending := busy_iff
    phase_code_legal := phaseLegal
    variant_code_legal := varLegal
    error_code_legal := errLegal
    final_in_range := final_ok
    absorb_in_phase := absorb_ok }

/-- With nothing pending and BUSY = 0 the invariant holds. -/
theorem inv_of_idle {s : State} (hb : s.busy = false) (hp : s.pend = .none) : s.Inv :=
  inv_of_pend (by simp [hb, hp]) (by simp [hp]) (by simp [hp])

/-- The invariant depends on VAR, PHASE, BUSY and PEND only. -/
theorem State.Inv.congr {s t : State} (inv : s.Inv) (hvar : t.var = s.var) (hphase : t.phase = s.phase)
    (hbusy : t.busy = s.busy) (hpend : t.pend = s.pend) : t.Inv := by
  apply inv_of_pend
  · rw [hbusy, hpend]
    exact inv.busy_iff_pending
  · rw [hvar, hphase, hpend]
    exact inv.final_in_range
  · rw [hphase, hpend]
    exact inv.absorb_in_phase

/-- While BUSY = 0 nothing is pending. -/
theorem State.Inv.pend_of_idle {s : State} (inv : s.Inv) (hb : s.busy = false) : s.pend = .none := by
  by_contra pending
  exact nomatch hb.symm.trans (inv.busy_iff_pending.2 pending)

/-- The checks of a command's acceptance are the clauses of the invariant on PEND. -/
theorem inv_accept {s : State} {i : Instr} {p : Pend} (ha : Accepts s i p) : (s.accept p).Inv := by
  cases ha with
  | absorb hphase => exact inv_of_pend (by simp) (by simp) (fun _ => hphase)
  | final len hphase hlen =>
    exact inv_of_pend (by simp) (fun len' h => by cases h; exact ⟨hlen, hphase⟩) (by simp)
  | permute => exact inv_of_pend (by simp) (by simp) (by simp)

/-- Settles O58. -/
theorem resetMeetsInvariant : Obligations.ResetMeetsInvariant := inv_of_idle rfl rfl

/-- Settles O59: each effect on the registers keeps the invariant. -/
theorem stepKeepsInvariant : Obligations.StepKeepsInvariant := by
  intro s t inv h
  obtain ⟨u, effect, same⟩ := regsEffect_of_step h
  suffices kept : u.Inv from kept.congr same.var same.phase same.busy same.pend
  cases effect with
  | kept => exact inv
  | lane | blkWord => exact inv.congr rfl rfl rfl rfl
  | inited v hm hb => exact inv_of_idle hb (inv.pend_of_idle hb)
  | accepted i p hm hb he ha => exact inv_accept ha
  | engine => exact inv_of_idle (engineStep_busy s) (engineStep_pend s)
  | reset => exact resetMeetsInvariant

/-! ## The engine step and reset -/

/-- R31: the engine step reads neither ERR nor the host's program, replies or draws. -/
theorem engineStep_outside (s : State) (e : Err) (ops : List HostOp) (replies : List Word) (n : Nat) :
    engineStep { s with err := e, host := ops, replies := replies, draws := n } =
      { engineStep s with err := e, host := ops, replies := replies, draws := n } := by
  unfold engineStep
  cases s.pend <;> rfl

/-- A scheduled turn of the engine, on a busy block, is its step. -/
theorem step_engine {s : State} {turns : List Agent} (hb : s.busy = true) (hs : s.sched = .engine :: turns) :
    step s = .next (engineStep { s with sched := turns }) := by
  have move : s.nextMove = .engine := by simp [State.nextMove, State.nextAgent, hs, hb]
  simp [step, move, perform, State.popSched, hs]

/-- Counting one block is adding 1 to the number (10_state.md R32). -/
theorem blocks_add_one (x : BitVec 32) : x + 1#32 = BitVec.ofNat 32 (x.toNat + 1) := by
  rw [BitVec.ofNat_add, BitVec.ofNat_toNat, BitVec.setWidth_eq]

/-- Settles O47. -/
theorem engineStepCompletesPending : Obligations.EngineStepCompletesPending := by
  refine ⟨?_, fun s turns => step_engine, ?_, ?_, ?_, engineStep_outside⟩
  · intro s idle move
    exact nomatch idle.symm.trans (busy_of_nextMove_engine move)
  · intro s hp
    rw [engineStep_absorb s hp, ← blocks_add_one]
    rfl
  · intro s len hp
    rw [engineStep_final s len hp, ← blocks_add_one]
    rfl
  · intro s hp
    rw [engineStep_permute s hp]
    rfl

/-- Settles O48. -/
theorem resetValues : Obligations.ResetValues :=
  ⟨fun _ => Vector.getElem_replicate _, fun _ => Vector.getElem_replicate _, rfl, rfl, rfl, rfl, rfl, rfl,
    by decide⟩

end Sys2Proof.Machine

/-! The host window (20_memory.md): the register map read backwards, what a read and a write of each register
does, the bytes a write stores, and what a busy block keeps from the host. -/

namespace Sys2Proof.Machine

/-! ## The register map, from an index to its register -/

theorem eq_zero_of_toNat {widx : WordIndex} (h : widx.toNat = 0x00) : widx = 0x00#7 :=
  BitVec.eq_of_toNat_eq h

theorem regOf_eq_status {widx : WordIndex} (h : widx.toNat = 0x01) : regOf widx = .status := by
  simp [regOf, h]

theorem regOf_eq_blk {widx : WordIndex} {j : Fin 18} (h : widx.toNat = 0x10 + j.val) : regOf widx = .blk j := by
  have index : widx = BitVec.ofNat 7 (0x10 + j.val) := by
    apply BitVec.eq_of_toNat_eq
    rw [h, BitVec.toNat_ofNat]
    omega
  rw [index, regOf_blk]

theorem regOf_eq_state {widx : WordIndex} {i : Fin 25} (h : widx.toNat = 0x40 + i.val) :
    regOf widx = .state i := by
  have index : widx = BitVec.ofNat 7 (0x40 + i.val) := by
    apply BitVec.eq_of_toNat_eq
    rw [h, BitVec.toNat_ofNat]
    omega
  rw [index, regOf_state]

theorem exists_regOf_eq_blk {widx : WordIndex} (lo : 0x10 ≤ widx.toNat) (hi : widx.toNat ≤ 0x21) :
    ∃ j : Fin 18, widx.toNat - 0x10 = j.val ∧ regOf widx = .blk j :=
  ⟨⟨widx.toNat - 0x10, by omega⟩, rfl, regOf_eq_blk (by simp only; omega)⟩

theorem exists_regOf_eq_state {widx : WordIndex} (lo : 0x40 ≤ widx.toNat) (hi : widx.toNat ≤ 0x58) :
    ∃ i : Fin 25, widx.toNat - 0x40 = i.val ∧ regOf widx = .state i :=
  ⟨⟨widx.toNat - 0x40, by omega⟩, rfl, regOf_eq_state (by simp only; omega)⟩

theorem regOf_eq_reserved {widx : WordIndex}
    (h : (0x02 ≤ widx.toNat ∧ widx.toNat ≤ 0x0F) ∨ (0x22 ≤ widx.toNat ∧ widx.toNat ≤ 0x3F) ∨ 0x59 ≤ widx.toNat) :
    regOf widx = .reserved := by
  obtain ⟨n, -⟩ | ⟨n, -⟩ | ⟨j, n, -⟩ | ⟨i, n, -⟩ | ⟨-, hr⟩ := regOf_cases widx
  case inr.inr.inr.inr => exact hr
  all_goals omega

/-- Two indices never name the same BLK word (20_memory.md R54). -/
theorem eq_of_regOf_blk {w w' : WordIndex} {j : Fin 18} (h : regOf w = .blk j) (h' : regOf w' = .blk j) : w = w' :=
  BitVec.eq_of_toNat_eq ((toNat_of_regOf_blk h).trans (toNat_of_regOf_blk h').symm)

/-- Two indices never name the same STATE word (20_memory.md R54). -/
theorem eq_of_regOf_state {w w' : WordIndex} {i : Fin 25} (h : regOf w = .state i) (h' : regOf w' = .state i) :
    w = w' :=
  BitVec.eq_of_toNat_eq ((toNat_of_regOf_state h).trans (toNat_of_regOf_state h').symm)

/-! ## What each register reads -/

section
variable {widx : WordIndex} {s : State}

theorem memRead_of_status (h : regOf widx = .status) : memRead widx s = s.status := by simp [memRead, h]

theorem memRead_of_blk {j : Fin 18} (h : regOf widx = .blk j) : memRead widx s = s.blk[j.val] := by
  simp [memRead, h]

theorem memRead_of_state {i : Fin 25} (h : regOf widx = .state i) : memRead widx s = s.readState i := by
  simp [memRead, h]

theorem memRead_of_reserved (h : regOf widx = .reserved) : memRead widx s = 0#64 := by simp [memRead, h]

/-- An idle block shows its lanes (20_memory.md R57). -/
theorem readState_idle (hb : s.busy = false) (i : Fin 25) : s.readState i = s.lanes[i.val] := by
  simp [State.readState, hb]

/-- A busy block shows a free value in place of a lane (20_memory.md R57). -/
theorem readState_busy (hb : s.busy = true) (i : Fin 25) : s.readState i = Config.draw s.draws := by
  simp [State.readState, hb]

/-- The reads that use up a free value (20_memory.md R57). -/
theorem readsDraw_iff : readsDraw widx s = true ↔ 0x40 ≤ widx.toNat ∧ widx.toNat ≤ 0x58 ∧ s.busy = true := by
  obtain ⟨n, hr⟩ | ⟨n, hr⟩ | ⟨j, n, hr⟩ | ⟨i, n, hr⟩ | ⟨n, hr⟩ := regOf_cases widx
  case inr.inr.inr.inl =>
    have inRange : 0x40 ≤ widx.toNat ∧ widx.toNat ≤ 0x58 := by omega
    simp [readsDraw, hr, inRange]
  all_goals
    simp only [readsDraw, hr, Bool.false_eq_true, false_iff]
    omega

end

/-- Settles O37: the value is `memRead`, range by range. -/
theorem readTransactions : Obligations.ReadTransactions := by
  intro widx s rest host
  refine ⟨memRead widx s, ?_, ?_, ?_, ?_, ?_, ?_, ?_⟩
  · simp [hostMove, State.popHost, host, readsDraw_iff]
  · intro n
    rw [eq_zero_of_toNat n]
    rfl
  · exact fun n => memRead_of_status (regOf_eq_status n)
  · intro lo hi
    obtain ⟨j, offset, hr⟩ := exists_regOf_eq_blk lo hi
    simp [memRead_of_blk hr, offset]
  · intro lo hi idle
    obtain ⟨i, offset, hr⟩ := exists_regOf_eq_state lo hi
    simp [memRead_of_state hr, readState_idle idle, offset]
  · intro lo hi busy
    obtain ⟨i, -, hr⟩ := exists_regOf_eq_state lo hi
    rw [memRead_of_state hr, readState_busy busy]
  · exact fun range => memRead_of_reserved (regOf_eq_reserved range)

/-! ## What a write to each register does -/

section
variable {widx : WordIndex} (v : Word) {s : State}

/-- A write to CMD is the command (20_memory.md R63). -/
theorem memWrite_cmd : memWrite 0x00#7 v s = cmdWrite v s := rfl

theorem memWrite_of_blk {j : Fin 18} (h : regOf widx = .blk j) :
    memWrite widx v s = .next (if s.busy then s.raise .busyAccess else s.setBlk j v) := by
  simp [memWrite, h]

theorem memWrite_of_state {i : Fin 25} (h : regOf widx = .state i) :
    memWrite widx v s = .next (if s.busy then s.raise .busyAccess else s.setLane i v) := by
  simp [memWrite, h]

/-- STATUS and the reserved words take no write (20_memory.md R60). -/
theorem memWrite_of_unwritable (h : regOf widx = .status ∨ regOf widx = .reserved) :
    memWrite widx v s = .next (s.raise .badAddress) := by
  obtain h | h := h <;> simp [memWrite, h]

theorem memWrite_blk_idle {j : Fin 18} (h : regOf widx = .blk j) (hb : s.busy = false) :
    memWrite widx v s = .next (s.setBlk j v) := by
  simp [memWrite_of_blk v h, hb]

theorem memWrite_state_idle {i : Fin 25} (h : regOf widx = .state i) (hb : s.busy = false) :
    memWrite widx v s = .next (s.setLane i v) := by
  simp [memWrite_of_state v h, hb]

end

/-- Settles O38. -/
theorem writeTransactions : Obligations.WriteTransactions := by
  intro widx v s
  refine ⟨?_, ?_, ?_, ?_⟩
  · intro n
    rw [eq_zero_of_toNat n, memWrite_cmd]
  · exact fun j n => memWrite_of_blk v (regOf_eq_blk n)
  · exact fun i n => memWrite_of_state v (regOf_eq_state n)
  · exact fun range => memWrite_of_unwritable v (range.imp regOf_eq_status regOf_eq_reserved)

/-! ## A written word reads back -/

@[simp] theorem status_setBlk (s : State) (j : Fin 18) (v : Word) : (s.setBlk j v).status = s.status := rfl

@[simp] theorem status_setLane (s : State) (i : Fin 25) (v : Word) : (s.setLane i v).status = s.status := rfl

@[simp] theorem readState_setBlk (s : State) (j : Fin 18) (v : Word) (i : Fin 25) :
    (s.setBlk j v).readState i = s.readState i := rfl

/-- A read after BLK[j] took a value. -/
theorem memRead_setBlk (other : WordIndex) (s : State) (j : Fin 18) (v : Word) :
    memRead other (s.setBlk j v) = if regOf other = .blk j then v else memRead other s := by
  cases hr : regOf other with
  | blk k =>
    simp only [memRead_of_blk hr, State.setBlk_blk, Vector.getElem_set, Reg.blk.injEq, Fin.ext_iff,
      eq_comm (a := j.val)]
  | cmd | status | state | reserved => simp [memRead, hr]

/-- A read after lane(i) took a value, on an idle block. -/
theorem memRead_setLane (other : WordIndex) {s : State} (hb : s.busy = false) (i : Fin 25) (v : Word) :
    memRead other (s.setLane i v) = if regOf other = .state i then v else memRead other s := by
  cases hr : regOf other with
  | state k =>
    have hb' : (s.setLane i v).busy = false := hb
    simp only [memRead_of_state hr, readState_idle hb, readState_idle hb', State.setLane_lanes, Vector.getElem_set,
      Reg.state.injEq, Fin.ext_iff, eq_comm (a := i.val)]
  | cmd | status | blk | reserved => simp [memRead, hr]

/-- Settles O40, by the read-after-write rules: two indices never name the same word. -/
theorem writtenWordReadsBack : Obligations.WrittenWordReadsBack := by
  intro widx v s idle range
  obtain ⟨lo, hi⟩ | ⟨lo, hi⟩ := range
  · obtain ⟨j, -, hr⟩ := exists_regOf_eq_blk lo hi
    refine ⟨s.setBlk j v, memWrite_blk_idle v hr idle, ?_, fun other ne => ?_⟩
    · rw [memRead_setBlk, if_pos hr]
    · rw [memRead_setBlk, if_neg fun h => ne (eq_of_regOf_blk h hr)]
  · obtain ⟨i, -, hr⟩ := exists_regOf_eq_state lo hi
    refine ⟨s.setLane i v, memWrite_state_idle v hr idle, ?_, fun other ne => ?_⟩
    · rw [memRead_setLane widx idle, if_pos hr]
    · rw [memRead_setLane other idle, if_neg fun h => ne (eq_of_regOf_state h hr)]

/-! ## The bytes a write stores -/

/-- Setting one word of an array of words changes the eight bytes of that word and no other. -/
theorem byteOf_getElem_set {n : Nat} (words : Vector Word n) (i : Nat) (hi : i < n) (v : Word) (k : Nat)
    (hk : k / 8 < n) :
    byteOf (words.set i v)[k / 8] (k % 8) =
      if 8 * i ≤ k ∧ k < 8 * i + 8 then byteOf v (k - 8 * i) else byteOf words[k / 8] (k % 8) := by
  rw [Vector.getElem_set]
  by_cases own : i = k / 8
  · rw [if_pos own, if_pos (by omega), show k % 8 = k - 8 * i by omega]
  · rw [if_neg own, if_neg (by omega)]

/-- Settles O41. -/
theorem hostWritesStoreOnlyTheirBytes : Obligations.HostWritesStoreOnlyTheirBytes := by
  constructor
  · intro i v s idle
    exact ⟨s.setLane i v, memWrite_state_idle v (regOf_state i) idle, rfl,
      fun k => byteOf_getElem_set s.lanes i.val i.isLt v k.val (by omega)⟩
  · intro j v s idle
    exact ⟨s.setBlk j v, memWrite_blk_idle v (regOf_blk j) idle, rfl,
      fun k => byteOf_getElem_set s.blk j.val j.isLt v k.val (by omega)⟩

/-! ## What a busy block keeps from the host -/

/-- While BUSY = 1 every CMD write is refused, whatever the word (30_encoding.md R89). -/
theorem cmdWrite_busy (w : Word) {s : State} (hb : s.busy = true) : cmdWrite w s = .next (s.raise .busyAccess) := by
  unfold cmdWrite
  cases decode w with
  | error => simp [State.guarded_busy, hb]
  | ok i => cases i <;> simp [exec, execInit, execAbsorb, execFinal, execPermute, State.guarded_busy, hb]

/-- The engine step does not read ERR, so a raise before it is a raise after it. -/
theorem engineStep_raise (s : State) (code : Err) :
    engineStep (s.raise code) = { engineStep s with err := (s.raise code).err } := by
  refine (engineStep_outside s (s.raise code).err s.host s.replies s.draws).trans ?_
  simp only [engineStep_host, engineStep_replies, engineStep_draws]

/-- Settles O39. -/
theorem busyWritesAreDropped : Obligations.BusyWritesAreDropped := by
  intro widx v s busy range
  refine ⟨s.raise .busyAccess, ?_, rfl, engineStep_raise s _⟩
  obtain n | ⟨lo, hi⟩ | ⟨lo, hi⟩ := range
  · rw [eq_zero_of_toNat n, memWrite_cmd, cmdWrite_busy v busy]
  · obtain ⟨j, -, hr⟩ := exists_regOf_eq_blk lo hi
    simp [memWrite_of_blk v hr, busy]
  · obtain ⟨i, -, hr⟩ := exists_regOf_eq_state lo hi
    simp [memWrite_of_state v hr, busy]

/-- Settles O55: every other effect on the registers wants BUSY = 0. -/
theorem operandsFrozenWhileBusy : Obligations.OperandsFrozenWhileBusy := by
  intro s t busy h notEngine notReset
  obtain ⟨u, effect, same⟩ := regsEffect_of_step h
  cases effect with
  | kept => exact ⟨same.lanes, same.blk, same.var, same.phase, same.pend, same.blocks, same.busy.trans busy⟩
  | engine hm => exact absurd hm notEngine
  | reset hm => exact absurd hm notReset
  | lane _ _ _ _ _ hb | blkWord _ _ _ _ _ hb | inited _ _ hb | accepted _ _ _ hb =>
    exact nomatch hb.symm.trans busy

/-! ## The part of BLK that ABSORB reads -/

/-- A command that reads the first n bytes of BLK sees no other byte of it. -/
theorem blkBytes_congr {b c : BlkWords} {n : Nat} (h : ∀ j : Fin 144, j.val < n → blkByte b j = blkByte c j) :
    blkBytes b n = blkBytes c n := by
  apply List.ext_getElem (by simp)
  intro j hj _
  obtain ⟨below, inBuffer⟩ : j < n ∧ j < 144 := by simpa using hj
  simpa [blkBytes] using h ⟨j, inBuffer⟩ below

/-- Settles O30: the rate is a whole number of words, so its bytes are those of the words below it. -/
theorem absorbIgnoresWordsPastRate : Obligations.AbsorbIgnoresWordsPastRate := by
  intro s b pending agree
  have sameBytes : blkBytes b (rateBytes s.var) = blkBytes s.blk (rateBytes s.var) := by
    apply blkBytes_congr
    intro j hj
    have aligned := rateBytes_mod_eight s.var
    exact congrArg (byteOf · (j.val % 8)) (agree ⟨j.val / 8, by omega⟩ (by simp only; omega))
  rw [engineStep_absorb s pending, engineStep_absorb { s with blk := b } pending]
  simp [State.completeAbsorb, State.retire, sameBytes]

/-! ## The host's operations as steps -/

/-- A write at the head of the host's program is performed when the host's turn comes. -/
theorem step_write {s : State} {widx : WordIndex} {v : Word} {ops : List HostOp} (turn : s.nextAgent = .host)
    (host : s.host = .wr widx v :: ops) : step s = memWrite widx v { s with host := ops, sched := s.sched.tail } := by
  simp [step, State.nextMove, turn, host, perform, hostMove, State.popHost, State.popSched]

theorem cmdWrite_of_decode {w : Word} {i : Instr} (h : decode w = .ok i) (s : State) : cmdWrite w s = exec i s := by
  simp [cmdWrite, h]

theorem decode_of_decodeTableWord {w : Nat} {i : Instr} (h : decodeTableWord 64 w = some i) :
    decode (BitVec.ofNat 64 (w % 2 ^ 64)) = .ok i := by
  unfold decodeTableWord at h
  generalize decode (BitVec.ofNat 64 (w % 2 ^ 64)) = answer at h ⊢
  cases answer with
  | error reason => cases h
  | ok j => cases h; rfl

/-- A step that performs a write of a command's word to CMD is that command. -/
theorem step_command {s : State} {w : Word} {i : Instr} {ops : List HostOp} (turn : s.nextAgent = .host)
    (host : s.host = .wr 0x00#7 w :: ops) (hd : decode w = .ok i) :
    step s = exec i { s with host := ops, sched := s.sched.tail } := by
  rw [step_write turn host, memWrite_cmd, cmdWrite_of_decode hd]

/-- Settles O46. -/
theorem stepRunsDecodedCommand : Obligations.StepRunsDecodedCommand := by
  refine ⟨fun s w i ops host hd => ⟨fun turns sched => ?_, fun sched idle => ?_⟩, fun s w i hd => ?_⟩
  · rw [step_command (by simp [State.nextAgent, sched]) host hd, sched, List.tail_cons]
  · rw [step_command (by simp [State.nextAgent, sched, idle]) host hd, sched, List.tail_nil, ← sched]
  · exact step_command rfl rfl (decode_of_decodeTableWord hd)

/-- Settles O56: bit 0 of STATUS is BUSY. -/
theorem pollWaitsForCompletion : Obligations.PollWaitsForCompletion := by
  intro s ops host
  simp only [hostMove, memRead_status, status_zero, State.popHost, host, List.tail_cons]

end Sys2Proof.Machine

/-! The command encoding (30_encoding.md): R88's check as bit ranges, that the decoder's masks agree with it, and
the CMD write against the pseudocode of R89. -/

namespace Sys2Proof

/-- Settles O2. -/
theorem decodeInvertsEncode : Obligations.DecodeInvertsEncode :=
  fun _ i => ⟨eq_encode_of_decode, fun h => h ▸ decode_encode i⟩

/-! ## The well-formedness check, OP by OP -/

section
variable {w : Word}

theorem wellFormed_iff_of_init (op : w.extractLsb 3 0 = 1#4) :
    wellFormed w = true ↔ w.extractLsb 63 18 = 0#46 ∧ w.extractLsb 15 4 = 0#12 := by
  have code : (w.extractLsb' 0 4).toNat = 1 := congrArg BitVec.toNat op
  simp only [wellFormed, code, Bool.and_eq_true, beq_iff_eq]
  rfl

theorem wellFormed_iff_of_final (op : w.extractLsb 3 0 = 3#4) :
    wellFormed w = true ↔ w.extractLsb 63 16 = 0#48 ∧ w.extractLsb 7 4 = 0#4 := by
  have code : (w.extractLsb' 0 4).toNat = 3 := congrArg BitVec.toNat op
  simp only [wellFormed, code, Bool.and_eq_true, beq_iff_eq]
  rfl

/-- ABSORB and PERMUTE take no operand. -/
theorem wellFormed_iff_of_noOperand (op : w.extractLsb 3 0 = 2#4 ∨ w.extractLsb 3 0 = 4#4) :
    wellFormed w = true ↔ w.extractLsb 63 4 = 0#60 := by
  have code : (w.extractLsb' 0 4).toNat = 2 ∨ (w.extractLsb' 0 4).toNat = 4 :=
    op.imp (congrArg BitVec.toNat) (congrArg BitVec.toNat)
  obtain code | code := code
  all_goals
    simp only [wellFormed, code, beq_iff_eq]
    rfl

/-- OP 0x0 and 0x5 to 0xF select no command. -/
theorem wellFormed_of_unassigned (op : (w.extractLsb 3 0).toNat = 0 ∨ 5 ≤ (w.extractLsb 3 0).toNat) :
    wellFormed w = false := by
  change (w.extractLsb' 0 4).toNat = 0 ∨ 5 ≤ (w.extractLsb' 0 4).toNat at op
  unfold wellFormed
  split
  case h_5 => rfl
  all_goals omega

end

/-- R88's check, command by command. -/
theorem wellFormed_iff (w : Word) : wellFormed w = true ↔
    ((w.extractLsb 3 0 = 1#4 ∧ w.extractLsb 63 18 = 0#46 ∧ w.extractLsb 15 4 = 0#12) ∨
     (w.extractLsb 3 0 = 2#4 ∧ w.extractLsb 63 4 = 0#60) ∨
     (w.extractLsb 3 0 = 3#4 ∧ w.extractLsb 63 16 = 0#48 ∧ w.extractLsb 7 4 = 0#4) ∨
     (w.extractLsb 3 0 = 4#4 ∧ w.extractLsb 63 4 = 0#60)) := by
  obtain op | op | op | op | unassigned := opCode_cases (w.extractLsb 3 0)
  · simp [wellFormed_iff_of_init op, op]
  · simp [wellFormed_iff_of_noOperand (.inl op), op]
  · simp [wellFormed_iff_of_final op, op]
  · simp [wellFormed_iff_of_noOperand (.inr op), op]
  · have noCommand : ∀ k : BitVec 4, 1 ≤ k.toNat → k.toNat ≤ 4 → w.extractLsb 3 0 ≠ k := by
      rintro k lo hi rfl
      omega
    simp [wellFormed_of_unassigned unassigned, noCommand]

/-! ## The decoder agrees with the check -/

theorem wellFormed_encode (i : Instr) : wellFormed (encode i) = true := by
  cases i with
  | init var => exact Laws.EncodeWellFormed.init var
  | absorb => exact Laws.EncodeWellFormed.absorb
  | final len => exact Laws.EncodeWellFormed.final len
  | permute => exact Laws.EncodeWellFormed.permute

/-- A well-formed word is the word of a command. -/
theorem exists_encode_of_wellFormed {w : Word} (h : wellFormed w = true) : ∃ i, w = encode i := by
  obtain ⟨op, high, low⟩ | ⟨op, zero⟩ | ⟨op, high, low⟩ | ⟨op, zero⟩ := (wellFormed_iff w).mp h
  · exact ⟨.init (varField w), word_of_initSlices w op high low⟩
  · exact ⟨.absorb, word_of_opSlices w _ op zero⟩
  · exact ⟨.final (lenField w), word_of_finalSlices w op high low⟩
  · exact ⟨.permute, word_of_opSlices w _ op zero⟩

theorem decodes_iff_wellFormed (w : Word) : (∃ i, decode w = .ok i) ↔ wellFormed w = true := by
  simp only [decodeInvertsEncode w]
  exact ⟨fun ⟨i, h⟩ => h ▸ wellFormed_encode i, exists_encode_of_wellFormed⟩

/-- Settles O3. -/
theorem decodesExactlyWellFormedWords : Obligations.DecodesExactlyWellFormedWords :=
  fun w => (decodes_iff_wellFormed w).trans (wellFormed_iff w)

/-! ## The fields of a command's word -/

/-- The OP code of a command (30_encoding.md R86). -/
def Instr.opcode : Instr → Nat
  | .init _ => 1
  | .absorb => 2
  | .final _ => 3
  | .permute => 4

theorem op_encode (i : Instr) : ((encode i).extractLsb' 0 4).toNat = i.opcode := by
  cases i with
  | init var => decide +revert
  | absorb => decide
  | final len => decide +revert
  | permute => decide

theorem var_encode_init (code : BitVec 2) : (encode (.init code)).extractLsb' 16 2 = code := by
  decide +revert

theorem len_encode_final (len : BitVec 8) : (encode (.final len)).extractLsb' 8 8 = len := by
  decide +revert

end Sys2Proof

namespace Sys2Proof.Machine

/-! ## A word that is no command -/

theorem State.raise_unlocked (s : State) (code : Err) (he : s.err = .none) :
    s.raise code = { s with err := code } := by
  simp [State.raise, he]

theorem cmdWrite_of_illFormed {w : Word} (h : wellFormed w = false) (s : State) :
    cmdWrite w s = .next (s.guarded fun s => s.raise .illegalCmd) := by
  cases hd : decode w with
  | error reason => simp [cmdWrite, hd]
  | ok i => simp [(decodes_iff_wellFormed w).mp ⟨i, hd⟩] at h

/-- On an idle, unlocked block an ill-formed word raises ILLEGAL_CMD (30_encoding.md R85, R87). -/
theorem cmdWrite_illegal {w : Word} {s : State} (h : wellFormed w = false) (hb : s.busy = false)
    (he : s.err = .none) : cmdWrite w s = .next { s with err := .illegalCmd } := by
  rw [cmdWrite_of_illFormed h, s.guarded_pass _ hb he, s.raise_unlocked _ he]

/-- Settles O4: by its OP's line of R88's check, the word is ill-formed. -/
theorem mustBeZeroBitsAreEnforced : Obligations.MustBeZeroBitsAreEnforced := by
  refine ⟨fun w s hb he bits => ?_, fun w op len => ?_⟩
  · have illFormed : wellFormed w = false := by
      rw [← Bool.not_eq_true]
      obtain ⟨op, nonzero⟩ | ⟨op, nonzero⟩ | ⟨op, nonzero⟩ | ⟨op, nonzero⟩ := bits
      · rwa [wellFormed_iff_of_init op, not_and_or]
      · rwa [wellFormed_iff_of_noOperand (.inl op)]
      · rwa [wellFormed_iff_of_final op, not_and_or]
      · rwa [wellFormed_iff_of_noOperand (.inr op)]
    exact ⟨illFormed, cmdWrite_illegal illFormed hb he⟩
  · rw [← Bool.not_eq_true, wellFormed_iff_of_noOperand (.inl op)]
    intro zero
    exact len (by rw [word_of_opSlices w _ op zero]; rfl)

/-! ## The pseudocode of R89 -/

/-- A reserved VAR selects no variant (30_encoding.md R84). -/
theorem variantOfCode_reserved {code : BitVec 2} (h : 2 ≤ code.toNat) : variantOfCode code = none := by
  revert code
  decide

/-- A legal VAR selects the variant that R89's `do_init(var)` latches (30_encoding.md R84). -/
theorem variantOfCode_legal {code : BitVec 2} (h : code.toNat ≤ 1) :
    variantOfCode code = some (if code.toNat = 0 then .sha3_224 else .sha3_256) := by
  revert code
  decide

/-- The pseudocode answers an ill-formed word after the two checks of every command. -/
theorem specCmdWrite_of_illFormed {w : Word} (h : wellFormed w = false) (s : State) :
    specCmdWrite w s = s.guarded fun s => s.raise .illegalCmd := by
  by_cases he : s.err = .none <;> simp [specCmdWrite, State.guarded, h, he]

theorem exec_init_eq_spec (code : BitVec 2) (s : State) :
    exec (.init code) s = .next (specCmdWrite (encode (.init code)) s) := by
  simp only [exec, execInit, specCmdWrite, wellFormed_encode, op_encode, Instr.opcode, var_encode_init]
  by_cases legal : code.toNat ≤ 1
  · have notReserved : ¬2 ≤ code.toNat := by omega
    simp [variantOfCode_legal legal, legal, notReserved]
  · have reserved : 2 ≤ code.toNat := by omega
    cases hb : s.busy <;> simp [variantOfCode_reserved reserved, legal, reserved, State.guarded, hb]

/-- On the word of a command the pseudocode does that command. -/
theorem exec_eq_spec (i : Instr) (s : State) : exec i s = .next (specCmdWrite (encode i) s) := by
  cases i with
  | init code => exact exec_init_eq_spec code s
  | absorb | final len | permute =>
    simp only [exec, execAbsorb, execFinal, execPermute, specCmdWrite, wellFormed_encode, op_encode, Instr.opcode,
      len_encode_final]
    simp [State.guarded, State.accept]

theorem cmdWrite_eq_spec (w : Word) (s : State) : cmdWrite w s = .next (specCmdWrite w s) := by
  cases h : wellFormed w with
  | false => rw [cmdWrite_of_illFormed h, specCmdWrite_of_illFormed h]
  | true =>
    obtain ⟨i, rfl⟩ := exists_encode_of_wellFormed h
    rw [cmdWrite_of_decode (decode_encode i), exec_eq_spec]

/-- Settles O5. -/
theorem cmdWriteFollowsSpecPseudocode : Obligations.CmdWriteFollowsSpecPseudocode :=
  fun w s => ⟨cmdWrite_eq_spec w s, (memWrite_cmd w).trans (cmdWrite_eq_spec w s)⟩

/-! ## The listed words -/

/-- On an idle, unlocked block an INIT with a reserved VAR raises BAD_VARIANT (30_encoding.md R84). -/
theorem exec_init_reserved {code : BitVec 2} {s : State} (reserved : 2 ≤ code.toNat) (hb : s.busy = false)
    (he : s.err = .none) : exec (.init code) s = .next { s with err := .badVariant } := by
  simp [exec, execInit, variantOfCode_reserved reserved, hb, s.guarded_pass _ hb he, s.raise_unlocked _ he]

/-- Settles O1: the listed words are the encodings of the listed commands, and the last is INIT with VAR = 2. -/
theorem listedWordsDecodeAsListed : Obligations.ListedWordsDecodeAsListed := by
  refine ⟨decode_encode (.init 0#2), decode_encode (.init 1#2), decode_encode .absorb, decode_encode (.final 0#8),
    decode_encode (.final 3#8), decode_encode (.final 135#8), decode_encode (.final 143#8), decode_encode .permute,
    fun s hb he => ⟨cmdWrite_illegal (by decide) hb he, cmdWrite_illegal (by decide) hb he, ?_⟩⟩
  exact (cmdWrite_of_decode (decode_encode (.init 2#2)) s).trans (exec_init_reserved (by decide) hb he)

end Sys2Proof.Machine

/-! The permutation (40_permutation.md): each step mapping on linear lane indices, the two tables, the order of the
rounds, and the PERMUTE command. -/

namespace Sys2Proof.Machine

/-! ## Linear indices and coordinates -/

/-- The linear index of a coordinate pair is in range (10_state.md R21). -/
theorem getElem?_xy (a : Lanes) (x y : Fin 5) : a[x.val + 5 * y.val]? = some (laneXY a x y) :=
  Vector.getElem?_eq_getElem (by omega)

theorem getD_xy (a : Lanes) (x y : Fin 5) : (a[x.val + 5 * y.val]?).getD 0#64 = laneXY a x y := by
  rw [getElem?_xy, Option.getD_some]

/-- Coordinates in `Fin 5` are Nat coordinates reduced modulo 5 (00_scope.md R12). -/
theorem val_sub_one (x : Fin 5) : (x - 1).val = (x.val + 4) % 5 := by
  rw [Fin.val_sub, Nat.add_comm]
  rfl

/-! ## The step mappings -/

/-- The column parity of R102, on linear indices. -/
theorem columnParity_eq_getD (a : Lanes) (x : Fin 5) :
    columnParity a x = (a[x.val]?).getD 0#64 ^^^ (a[x.val + 5]?).getD 0#64 ^^^ (a[x.val + 10]?).getD 0#64 ^^^
      (a[x.val + 15]?).getD 0#64 ^^^ (a[x.val + 20]?).getD 0#64 := by
  simp only [columnParity, ← getD_xy]
  rfl

/-- Settles O13: `C` and `D` are the parities and the differences that `laneXY_theta` names. -/
theorem thetaFormula : Obligations.ThetaFormula := by
  intro a C D hC hD x y hx hy
  lift x to Fin 5 using hx
  lift y to Fin 5 using hy
  have parity (x : Fin 5) : C x.val = columnParity a x := (hC x x.isLt).trans (columnParity_eq_getD a x).symm
  have difference : D x.val = columnParity a (x - 1) ^^^ rotl (columnParity a (x + 1)) 1 := by
    rw [hD x x.isLt, ← val_sub_one, ← parity, ← parity, Fin.val_add]
    rfl
  rw [getElem?_xy, laneXY_theta, getD_xy, difference]

/-- Settles O14. -/
theorem rhoRotatesEachLane : Obligations.RhoRotatesEachLane := by
  intro a
  have rotated (i : Fin 25) : (rho a)[i.val] = rotl a[i.val] rhoOffsets[i.val] := by
    rw [getElem_eq_laneXY (rho a) i i.isLt, laneXY_rho, ← getElem_eq_laneXY a i i.isLt]
    simp only [Nat.mod_add_div]
  exact ⟨rotated, (rotated 0).trans (rotl_zero _)⟩

/-- Settles O15. -/
theorem rotationOffsetsAreTheWalk : Obligations.RotationOffsetsAreTheWalk :=
  ⟨rfl, by decide⟩

/-- π moves a lane to R105's target: reading there comes back, as 6x + 10y is x modulo 5. -/
theorem laneXY_piStep_target (a : Lanes) (x y : Fin 5) : laneXY (piStep a) y (2 * x + 3 * y) = laneXY a x y := by
  have source : y + 3 * (2 * x + 3 * y) = x := by decide +revert
  rw [laneXY_piStep, source]

/-- Settles O16. -/
theorem piMovesLanes : Obligations.PiMovesLanes := by
  intro a
  refine ⟨fun x y hx hy => ?_, laneXY_piStep_target a 1 0, laneXY_piStep_target a 0 0⟩
  lift x to Fin 5 using hx
  lift y to Fin 5 using hy
  have target : (2 * x + 3 * y).val = (2 * x.val + 3 * y.val) % 5 := by simp [Fin.val_add, Fin.val_mul]
  rw [← target, getElem?_xy, laneXY_piStep_target, getElem?_xy]

/-- Settles O17. -/
theorem roundConstantsAreGenerated : Obligations.RoundConstantsAreGenerated :=
  ⟨rfl, rfl, rfl, by decide⟩

/-- Settles O18. -/
theorem chiFormula : Obligations.ChiFormula := by
  intro a x y hx hy
  lift x to Fin 5 using hx
  lift y to Fin 5 using hy
  rw [getElem?_xy, laneXY_chi, ← getD_xy a x, ← getD_xy a (x + 1), ← getD_xy a (x + 2)]
  rfl

/-- Settles O19. -/
theorem iotaTouchesOnlyOrigin : Obligations.IotaTouchesOnlyOrigin :=
  fun a i => ⟨getElem_iota a i 0 (by decide), fun k hk => (getElem_iota a i k k.isLt).trans (if_neg hk)⟩

/-! ## What a bit of θ and χ depends on -/

/-- Two states agree on bit z of every lane. -/
def AgreeOnBit (z : Nat) (a b : Lanes) : Prop := ∀ x y, (laneXY a x y).getLsbD z = (laneXY b x y).getLsbD z

theorem agreeOnBit_iff (z : Nat) (a b : Lanes) :
    AgreeOnBit z a b ↔ ∀ i : Fin 25, a[i.val].getLsbD z = b[i.val].getLsbD z := by
  constructor
  · intro agree i
    rw [getElem_eq_laneXY a, getElem_eq_laneXY b]
    exact agree _ _
  · intro agree x y
    exact agree ⟨x.val + 5 * y.val, by omega⟩

theorem AgreeOnBit.columnParity {z : Nat} {a b : Lanes} (agree : AgreeOnBit z a b) (x : Fin 5) :
    (columnParity a x).getLsbD z = (columnParity b x).getLsbD z := by
  simp only [Machine.columnParity, BitVec.getLsbD_xor, agree x _]

theorem AgreeOnBit.chi {z : Nat} {a b : Lanes} (agree : AgreeOnBit z a b) : AgreeOnBit z (chi a) (chi b) := by
  intro x y
  simp only [laneXY_chi, BitVec.getLsbD_xor, BitVec.getLsbD_and, BitVec.getLsbD_not, agree _ y]

/-- The rotation by 1 in θ brings the bit below into play. -/
theorem AgreeOnBit.theta {z : Nat} {a b : Lanes} (hz : z < 64) (agree : AgreeOnBit z a b)
    (below : AgreeOnBit ((z + 63) % 64) a b) : AgreeOnBit z (theta a) (theta b) := by
  intro x y
  have rotated (c : Word) : (rotl c 1).getLsbD z = c.getLsbD ((z + 63) % 64) := getLsbD_rotl c (by decide) hz
  simp only [laneXY_theta, BitVec.getLsbD_xor, rotated, agree x y, agree.columnParity, below.columnParity]

/-- Settles O22. -/
theorem thetaAndChiAreBitwise : Obligations.ThetaAndChiAreBitwise := by
  constructor
  · intro a b z _ agree
    exact (agreeOnBit_iff z _ _).mp ((agreeOnBit_iff z a b).mpr agree).chi
  · intro a b z hz agree
    have here : AgreeOnBit z a b := (agreeOnBit_iff z a b).mpr fun i => (agree i).1
    have below : AgreeOnBit ((z + 63) % 64) a b := (agreeOnBit_iff _ a b).mpr fun i => (agree i).2
    exact (agreeOnBit_iff z _ _).mp (here.theta hz below)

/-! ## The order of the rounds -/

/-- The state after the first n rounds. -/
def afterRounds (a : Lanes) (n : Nat) : Lanes := ((List.finRange 24).take n).foldl rnd a

theorem afterRounds_succ (a : Lanes) (i : Nat) (hi : i < 24) :
    afterRounds a (i + 1) = rnd (afterRounds a i) ⟨i, hi⟩ := by
  simp [afterRounds, List.take_add_one, hi]

theorem keccakF_eq_afterRounds (a : Lanes) : keccakF a = afterRounds a 24 := by
  unfold keccakF
  rfl

/-- Settles O20, by the states after 0, 1, …, 24 rounds. -/
theorem permutationRunsRoundsInOrder : Obligations.PermutationRunsRoundsInOrder :=
  fun a => ⟨afterRounds a, rfl, afterRounds_succ a, keccakF_eq_afterRounds a⟩

/-! ## The spec's examples -/

/-- χ keeps any row of equal lanes, as w and ¬w have no bit in common. -/
theorem laneXY_chi_of_equal_row {a : Lanes} {y : Fin 5} {w : Word} (row : ∀ x, laneXY a x y = w) (x : Fin 5) :
    laneXY (chi a) x y = w := by
  rw [laneXY_chi, row, row, row]
  simp

/-- The two lanes of R110's example, in one run of the permutation. -/
theorem keccakF_zero_corners : (keccakF (Vector.replicate 25 0#64))[0] = 0xF1258F7940E1DDE7#64 ∧
    (keccakF (Vector.replicate 25 0#64))[24] = 0xEAF1FF7B5CECA249#64 := by
  decide +kernel

/-- Settles O21. -/
theorem stepMappingExamples : Obligations.StepMappingExamples := by
  refine ⟨by decide +kernel, fun a x y hx hy => ?_, fun a y w _ row => laneXY_chi_of_equal_row row,
    by decide +kernel, keccakF_zero_corners⟩
  lift x to Fin 5 using hx
  lift y to Fin 5 using hy
  have source : (x + 3 * y).val = (x.val + 3 * y.val) % 5 := by simp [Fin.val_add, Fin.val_mul]
  rw [getElem?_xy, laneXY_piStep, ← source, getElem?_xy]

/-! ## The PERMUTE command -/

/-- Settles O10. -/
theorem permuteRunsToCompletion : Obligations.PermuteRunsToCompletion := by
  intro s hb he
  refine ⟨congrArg Host.Outcome.next (s.guarded_pass _ hb he), fun turns => ?_⟩
  rw [step_engine rfl rfl, engineStep_permute _ rfl]
  simp [State.completePermute, State.retire, hb]

end Sys2Proof.Machine

/-! The sponge (41_sponge.md): when each command is accepted or refused, INIT, the absorb primitive, the completions of
ABSORB and FINAL and the blocks of the padded message they absorb, and the digest read-out. -/

namespace Sys2Proof.Machine

/-! ## When each command is accepted or refused -/

@[simp] theorem variantOfCode_code (v : Variant) : variantOfCode v.code = some v := by cases v <;> rfl

section
variable {s : State}

theorem exec_initOf (v : Variant) (hb : s.busy = false) : exec (initOf v) s = .next (s.doInit v) := by
  simp [exec, execInit, initOf, hb]

theorem exec_busy (i : Instr) (hb : s.busy = true) : exec i s = .next (s.raise .busyAccess) :=
  (cmdWrite_of_decode (decode_encode i) s).symm.trans (cmdWrite_busy (encode i) hb)

theorem exec_absorb_accepted (hb : s.busy = false) (he : s.err = .none) (hp : s.phase = .absorb) :
    exec .absorb s = .next (s.accept .absorb) := by
  simp [exec, execAbsorb, s.guarded_pass _ hb he, hp]

theorem exec_absorb_outOfPhase (hb : s.busy = false) (he : s.err = .none) (hp : s.phase ≠ .absorb) :
    exec .absorb s = .next { s with err := .sequence } := by
  simp [exec, execAbsorb, s.guarded_pass _ hb he, hp, s.raise_unlocked _ he]

theorem exec_final_accepted {len : BitVec 8} (hb : s.busy = false) (he : s.err = .none) (hp : s.phase = .absorb)
    (hl : len.toNat < rateBytes s.var) : exec (.final len) s = .next (s.accept (.final len)) := by
  simp [exec, execFinal, s.guarded_pass _ hb he, hp, hl]

theorem exec_final_outOfPhase (len : BitVec 8) (hb : s.busy = false) (he : s.err = .none)
    (hp : s.phase ≠ .absorb) : exec (.final len) s = .next { s with err := .sequence } := by
  simp [exec, execFinal, s.guarded_pass _ hb he, hp, s.raise_unlocked _ he]

theorem exec_final_overlong {len : BitVec 8} (hb : s.busy = false) (he : s.err = .none) (hp : s.phase = .absorb)
    (hl : rateBytes s.var ≤ len.toNat) : exec (.final len) s = .next { s with err := .badLength } := by
  simp [exec, execFinal, s.guarded_pass _ hb he, hp, hl, s.raise_unlocked _ he]

/-- The error lock lets only the INITs through that select a variant (41_sponge.md R141). -/
theorem exec_locked {i : Instr} (hb : s.busy = false) (he : s.err ≠ .none) (notInit : ∀ v, i ≠ initOf v) :
    exec i s = .next s := by
  cases i with
  | init code =>
    cases hv : variantOfCode code with
    | some v => exact absurd (congrArg Instr.init (eq_code_of_variantOfCode hv)) (notInit v)
    | none => simp [exec, execInit, hb, hv, s.guarded_locked _ hb he]
  | absorb | final len | permute => simp [exec, execAbsorb, execFinal, execPermute, s.guarded_locked _ hb he]

end

/-- Settles O11. -/
theorem refusedCommandsChangeOnlyErr : Obligations.RefusedCommandsChangeOnlyErr := by
  refine ⟨fun i s busy => exec_busy i busy, fun i s idle locked ne0 ne1 => ?_,
    fun code s idle unlocked reserved => exec_init_reserved reserved idle unlocked,
    fun len s idle unlocked phase =>
      ⟨exec_absorb_outOfPhase idle unlocked phase, exec_final_outOfPhase len idle unlocked phase⟩,
    fun len s idle unlocked phase long => exec_final_overlong idle unlocked phase long,
    fun s idle unlocked phase variant => exec_final_overlong idle unlocked phase ?_⟩
  · apply exec_locked idle locked
    rintro (_ | _)
    · exact ne0
    · exact ne1
  · rw [variant]
    decide

/-! ## INIT -/

/-- STATUS after INIT shows phase ABSORB and the variant (41_sponge.md R141). -/
theorem status_doInit {s : State} (v : Variant) (hb : s.busy = false) :
    (s.doInit v).status = BitVec.ofNat 64 (2 + 16 * v.code.toNat) := by
  apply BitVec.eq_of_toNat_eq
  rw [status_toNat]
  cases v <;> simp [hb, Variant.code, Phase.code, Err.code]

/-- Settles O7. -/
theorem initRestartsComputation : Obligations.InitRestartsComputation := by
  intro code v s idle selects
  have named : code = v.code := by
    obtain ⟨rfl, rfl⟩ | ⟨rfl, rfl⟩ := selects <;> rfl
  subst named
  exact ⟨s.doInit v, exec_initOf v idle, fun _ => Vector.getElem_replicate _, rfl, rfl, rfl, rfl,
    status_doInit v idle, rfl, idle, rfl, rfl, rfl, rfl, rfl⟩

/-- Settles O31. -/
theorem initStartsDigest : Obligations.InitStartsDigest :=
  fun v _ s idle => ⟨s.doInit v, exec_initOf v idle, ⟨rfl, rfl, rfl, idle, rfl, rfl⟩⟩

/-! ## The absorb primitive -/

/-- Settles O28: the array that is permuted is the block XOR. -/
theorem absorbXorsIntoRatePart : Obligations.AbsorbXorsIntoRatePart := by
  intro a v block full
  refine ⟨xorBlock a block, rfl, fun j => ⟨fun inside => ?_, fun past => ?_⟩⟩
  · rw [stateByte_xorBlock, List.getElem?_eq_getElem inside, Option.getD_some]
  · rw [stateByte_xorBlock, List.getElem?_eq_none (full.trans_le past), Option.getD_none, BitVec.xor_zero]

/-- A whole number of buffer words XORed in, lane by lane (10_state.md R23). -/
theorem getElem_xorBlock_words (a : Lanes) (b : BlkWords) {k : Nat} (hk : k ≤ 18) (i : Fin 25) :
    (xorBlock a (blkBytes b (8 * k)))[i.val] =
      if i.val < k then a[i.val] ^^^ (b[i.val]?).getD 0#64 else a[i.val] := by
  apply eq_of_byteOf
  intro m
  rw [← stateByte_at, stateByte_xorBlock, stateByte_at]
  by_cases inside : i.val < k
  · have word : i.val < 18 := inside.trans_le hk
    have byte := blkByte_at b ⟨i.val, word⟩ m
    rw [getElem?_blkBytes b _ _ (by simp only; omega) (by simp only; omega), Option.getD_some, byte, if_pos inside,
      Vector.getElem?_eq_getElem word, Option.getD_some, byteOf_xor]
  · rw [List.getElem?_eq_none (by simp; omega), Option.getD_none, BitVec.xor_zero, if_neg inside]

/-! ## ABSORB -/

/-- The engine's turn after an accepted ABSORB. -/
theorem step_accept_absorb (s : State) (turns : List Agent) :
    step { s.accept .absorb with sched := .engine :: turns } =
      .next { s.completeAbsorb.retire with sched := turns } := by
  rw [step_engine rfl rfl, engineStep_absorb _ rfl]
  rfl

/-- Settles O8: the rate is a whole number of words, so its bytes fill the lanes below rate_bytes/8. -/
theorem absorbRunsToCompletion : Obligations.AbsorbRunsToCompletion := by
  intro s idle unlocked phase
  refine ⟨exec_absorb_accepted idle unlocked phase, fun turns =>
    ⟨xorBlock s.lanes (blkBytes s.blk (rateBytes s.var)), fun i => ?_, ?_⟩⟩
  · have aligned : 8 * (rateBytes s.var / 8) = rateBytes s.var :=
      Nat.mul_div_cancel' (Nat.dvd_of_mod_eq_zero (rateBytes_mod_eight s.var))
    have inBuffer : rateBytes s.var / 8 ≤ 18 := Nat.div_le_div_right (rateBytes_le s.var)
    have lane := getElem_xorBlock_words s.lanes s.blk inBuffer i
    rwa [aligned] at lane
  · refine (step_accept_absorb s turns).trans ?_
    simp [State.completeAbsorb, State.retire, absorb, blocks_add_one, idle]

/-- Block n of the padded message is block n of the message while that is whole (42_padding_rate.md R172). -/
theorem blockAt_pad_whole {m : List Byte} {r n : Nat} (whole : (n + 1) * r ≤ m.length) :
    blockAt (pad m r) r n = blockAt m r n := by
  rw [Nat.succ_mul] at whole
  rw [blockAt, pad, List.drop_append_of_le_length (by omega), List.take_append_of_le_length (by simp; omega),
    blockAt]

/-- Settles O32. -/
theorem absorbExtendsDigest : Obligations.AbsorbExtendsDigest := by
  rintro v m n s turns ⟨rfl, phase, unlocked, idle, lanes, blocks⟩ whole loaded
  have absorbed : absorb s.lanes (blkBytes s.blk (rateBytes s.var)) =
      absorbBlocks (pad m (rateBytes s.var)) (rateBytes s.var) (n + 1) := by
    rw [absorbBlocks_succ, blockAt_pad_whole whole, lanes, loaded]
  have counted : s.blocks + 1#32 = BitVec.ofNat 32 (n + 1) := by rw [blocks, BitVec.ofNat_add]
  exact ⟨_, _, exec_absorb_accepted idle unlocked phase, step_accept_absorb s turns,
    ⟨rfl, phase, unlocked, rfl, absorbed, counted⟩⟩

/-! ## FINAL -/

/-- The engine's turn after an accepted FINAL. -/
theorem step_accept_final (s : State) (len : BitVec 8) (turns : List Agent) :
    step { s.accept (.final len) with sched := .engine :: turns } =
      .next { (s.completeFinal len).retire with sched := turns } := by
  rw [step_engine rfl rfl, engineStep_final _ len rfl]
  rfl

/-- The pad fills up the block that the message leaves open (42_padding_rate.md R172). -/
theorem length_pad (m : List Byte) {r : Nat} (hr : 0 < r) : (pad m r).length = (m.length / r + 1) * r := by
  have below := Nat.mod_lt m.length hr
  have split := Nat.div_add_mod' m.length r
  rw [pad, List.length_append, length_padBytes _ (by omega), Nat.succ_mul]
  omega

/-- The last block of the padded message is what is left of the message and the pad. -/
theorem blockAt_pad_last (m : List Byte) {r : Nat} (hr : 0 < r) :
    blockAt (pad m r) r (m.length / r) = m.drop (m.length / r * r) ++ padBytes (r - m.length % r) := by
  have last : (pad m r).drop (m.length / r * r) = m.drop (m.length / r * r) ++ padBytes (r - m.length % r) :=
    List.drop_append_of_le_length (Nat.div_mul_le_self _ _)
  rw [blockAt, List.take_of_length_le, last]
  rw [List.length_drop, length_pad m hr, Nat.succ_mul, Nat.add_sub_cancel_left]

/-- The digest is read after the full blocks and the last one (42_padding_rate.md R178). -/
theorem sha3_eq (v : Variant) (m : List Byte) : sha3 v m =
    stateBytes (absorbBlocks (pad m (rateBytes v)) (rateBytes v) (m.length / rateBytes v + 1)) (outBytes v) := by
  rw [sha3, length_pad m (rateBytes_pos v), Nat.mul_div_cancel _ (rateBytes_pos v)]

/-- A length below a rate fits LEN (30_encoding.md R82). -/
theorem toNat_len {v : Variant} {k : Nat} (hk : k < rateBytes v) : (BitVec.ofNat 8 k).toNat = k := by
  have bound := rateBytes_le v
  rw [BitVec.toNat_ofNat, Nat.mod_eq_of_lt (by omega)]

/-- Settles O33. -/
theorem finalYieldsDigest : Obligations.FinalYieldsDigest := by
  rintro v m s turns ⟨rfl, phase, unlocked, idle, lanes, blocks⟩ loaded
  have positive := rateBytes_pos s.var
  have below := Nat.mod_lt m.length positive
  have lenValue := toNat_len below
  have absorbed : absorb s.lanes (finalBlockBytes s.blk s.var
      (BitVec.ofNat 8 (m.length % rateBytes s.var)).toNat) =
      absorbBlocks (pad m (rateBytes s.var)) (rateBytes s.var) (m.length / rateBytes s.var + 1) := by
    rw [absorbBlocks_succ, blockAt_pad_last m positive, ← lanes, ← loaded, lenValue, finalBlockBytes]
  have counted : s.blocks + 1#32 = BitVec.ofNat 32 (m.length / rateBytes s.var + 1) := by
    rw [blocks, BitVec.ofNat_add]
  exact ⟨_, _, exec_final_accepted idle unlocked phase (lenValue.trans_lt below), step_accept_final s _ turns,
    (congrArg (stateBytes · _) absorbed).trans (sha3_eq s.var m).symm, ⟨rfl, rfl, unlocked⟩, rfl, counted⟩

/-! ## The digest read-out -/

theorem outBytes_le (v : Variant) : outBytes v ≤ 32 := by cases v <;> decide

/-- An idle block shows lane i at STATE[i] (20_memory.md R57). -/
theorem memRead_lane {widx : WordIndex} {s : State} (i : Fin 25) (hi : widx.toNat = 0x40 + i.val)
    (hb : s.busy = false) : memRead widx s = s.lanes[i.val] := by
  rw [memRead_of_state (regOf_eq_state hi), readState_idle hb]

/-- Byte j of words unpacked little-endian (41_sponge.md R147). -/
theorem getElem?_unpacked (words : List Word) (j : Nat) :
    (words.flatMap fun w => (List.range 8).map (byteOf w))[j]? = (words[j / 8]?).map (byteOf · (j % 8)) := by
  induction words generalizing j with
  | nil => rfl
  | cons w words ih =>
    rw [List.flatMap_cons]
    obtain here | later := Nat.lt_or_ge j 8
    · rw [List.getElem?_append_left (by simpa using here), Nat.div_eq_of_lt here, Nat.mod_eq_of_lt here]
      simp [here]
    · obtain ⟨k, rfl⟩ := Nat.exists_eq_add_of_le' later
      rw [List.getElem?_append_right (by simp)]
      simp [ih]

/-- The first four lanes unpack to the first 32 bytes of the state (10_state.md R22). -/
theorem digestOfWords_lanes (v : Variant) (a : Lanes) :
    digestOfWords v [a[0], a[1], a[2], a[3]] = stateBytes a (outBytes v) := by
  have bound := outBytes_le v
  apply List.ext_getElem?
  intro j
  rw [digestOfWords, List.getElem?_take, getElem?_unpacked]
  split
  case isTrue inside =>
    have lane : ∀ k (hk : k < 4), [a[0], a[1], a[2], a[3]][k]? = some (a[k]'(by omega)) := by
      intro k hk
      interval_cases k <;> rfl
    rw [lane _ (by omega), getElem?_stateBytes a _ j inside (by omega)]
    rfl
  case isFalse past => rw [List.getElem?_eq_none (by simp; omega)]

/-- Settles O34. -/
theorem digestReadOut : Obligations.DigestReadOut := by
  refine ⟨fun v s idle => ?_, fun v m => ?_⟩
  · rw [memRead_lane (widx := 0x40#7) 0 rfl idle, memRead_lane (widx := 0x41#7) 1 rfl idle,
      memRead_lane (widx := 0x42#7) 2 rfl idle, memRead_lane (widx := 0x43#7) 3 rfl idle]
    exact digestOfWords_lanes v s.lanes
  · have bound := outBytes_le v
    rw [sha3_eq, length_stateBytes]
    omega

end Sys2Proof.Machine

/-! Padding and rate (42_padding_rate.md): the variant table, the pad positions byte by byte, the padded message, the
final block, and FINAL. -/

namespace Sys2Proof.Machine

/-! ## The variant table -/

theorem rateBytes_add_capacityBytes (v : Variant) : rateBytes v + capacityBytes v = 200 := by cases v <;> rfl

theorem outBytes_le_rateBytes (v : Variant) : outBytes v ≤ rateBytes v := by cases v <;> decide

/-- Settles O24. -/
theorem variantTable : Obligations.VariantTable :=
  ⟨rfl, rfl, rfl, rfl, rfl, rfl, fun v =>
    ⟨rateBytes_add_capacityBytes v, outBytes_le_rateBytes v, rateBytes_mod_eight v⟩⟩

/-! ## The pad positions -/

/-- A head padded up to n bytes holds, past the head, the bytes of R175's table. -/
theorem getElem?_append_padBytes (head : List Byte) {n j : Nat} (past : head.length ≤ j) (inside : j < n) :
    (head ++ padBytes (n - head.length))[j]? = some
      (if j = head.length ∧ j + 1 = n then 0x86#8
       else if j = head.length then 0x06#8
       else if j + 1 = n then 0x80#8
       else 0x00#8) := by
  have first : j - head.length = 0 ↔ j = head.length := by omega
  have last : j - head.length + 1 = n - head.length ↔ j + 1 = n := by omega
  have onlyPad : j = head.length ∧ n - head.length = 1 ↔ j = head.length ∧ j + 1 = n := by omega
  rw [List.getElem?_append_right past, getElem?_padBytes _ _ (by omega), if_neg (by omega)]
  simp only [first, last, onlyPad]

/-! ## The padded message -/

/-- The pad runs from the end of the message to the end of the padded message. -/
theorem pad_eq_append (m : List Byte) {r : Nat} (hr : 0 < r) :
    pad m r = m ++ padBytes ((pad m r).length - m.length) := by
  have below := Nat.mod_lt m.length hr
  rw [pad, List.length_append, length_padBytes _ (by omega), Nat.add_sub_cancel_left]

/-- Settles O25: the length is (⌊L/r⌋ + 1)·r, the next multiple of the rate after L. -/
theorem paddingIsPad10Star1 : Obligations.PaddingIsPad10Star1 := by
  intro m r hr
  have length := length_pad m hr
  refine ⟨?_, ?_, fun n multiple longer => ?_, fun whole => ?_, ?_, fun j inside past => ?_⟩
  · rw [length, Nat.mul_mod_left]
  · rw [length, Nat.succ_mul]
    exact Nat.lt_div_mul_add hr
  · obtain ⟨q, rfl⟩ := Nat.dvd_of_mod_eq_zero multiple
    rw [length, Nat.mul_comm r q]
    exact Nat.mul_le_mul_right r (Nat.div_lt_of_lt_mul longer)
  · rw [length, Nat.succ_mul, Nat.div_mul_cancel (Nat.dvd_of_mod_eq_zero whole)]
  · rw [pad, List.take_left]
  · have byte := getElem?_append_padBytes m past inside
    rwa [← pad_eq_append m hr] at byte

/-- Settles O26. -/
theorem paddedBlockCount : Obligations.PaddedBlockCount :=
  fun v m => ⟨length_pad m (rateBytes_pos v), sha3_eq v m⟩

/-! ## The final block -/

section
variable (b : BlkWords) {v : Variant} {k : Nat}

/-- BLK holds more bytes than a final block takes from it. -/
theorem length_blkBytes_of_lt_rate (hk : k < rateBytes v) : (blkBytes b k).length = k := by
  rw [length_blkBytes, Nat.min_eq_left (hk.le.trans (rateBytes_le v))]

theorem length_finalBlockBytes (hk : k < rateBytes v) : (finalBlockBytes b v k).length = rateBytes v := by
  rw [finalBlockBytes, List.length_append, length_blkBytes_of_lt_rate b hk, length_padBytes _ (by omega)]
  omega

end

/-- Settles O27. -/
theorem finalBlockLayout : Obligations.FinalBlockLayout := by
  intro b v k hk
  refine ⟨length_finalBlockBytes b hk, fun j inside => ?_⟩
  have taken := length_blkBytes_of_lt_rate b hk
  obtain message | past := Nat.lt_or_ge j.val k
  · rw [finalBlockBytes, List.getElem?_append_left (message.trans_eq taken.symm),
      getElem?_blkBytes b k j message j.isLt, if_pos message]
  · have byte := getElem?_append_padBytes (blkBytes b k) (taken.trans_le past) inside
    rw [taken] at byte
    have onlyPad : j.val = k ∧ j.val + 1 = rateBytes v ↔ j.val = k ∧ k + 1 = rateBytes v :=
      and_congr_right fun first => by rw [first]
    rw [finalBlockBytes, byte, if_neg past.not_gt]
    simp only [onlyPad]

/-! ## FINAL -/

/-- Settles O9: below the rate the block's bytes are those of the final block's layout, and past it there are none. -/
theorem finalRunsToCompletion : Obligations.FinalRunsToCompletion := by
  intro len s idle unlocked phase short
  refine ⟨exec_final_accepted idle unlocked phase short, fun turns =>
    ⟨xorBlock s.lanes (finalBlockBytes s.blk s.var len.toNat), fun j => ?_, ?_⟩⟩
  · obtain ⟨full, layout⟩ := finalBlockLayout s.blk s.var len.toNat short
    rw [stateByte_xorBlock]
    obtain inside | past := Nat.lt_or_ge j.val (rateBytes s.var)
    · have inBuffer : j.val < 144 := inside.trans_le (rateBytes_le s.var)
      have word : j.val / 8 < 18 := by omega
      rw [layout ⟨j.val, inBuffer⟩ inside, Option.getD_some, blkByte, Vector.getElem?_eq_getElem word,
        Option.getD_some]
    · rw [List.getElem?_eq_none (full.trans_le past), Option.getD_none, if_neg (by omega), if_neg (by omega),
        if_neg (by omega), if_neg (by omega)]
  · refine (step_accept_final s len turns).trans ?_
    simp [State.completeFinal, State.retire, absorb, blocks_add_one, idle]

/-- Settles O29: the final block is made of BLK's first LEN bytes and the pad. -/
theorem finalIgnoresBytesPastLen : Obligations.FinalIgnoresBytesPastLen := by
  intro s b len pending _ agree
  have sameBlock : finalBlockBytes b s.var len.toNat = finalBlockBytes s.blk s.var len.toNat :=
    congrArg (· ++ padBytes (rateBytes s.var - len.toNat)) (blkBytes_congr agree)
  rw [engineStep_final s len pending, engineStep_final { s with blk := b } len pending]
  simp [State.completeFinal, State.retire, sameBlock]

end Sys2Proof.Machine

/-! Exceptions (60_exceptions.md): which CMD words the error lock drops, what can put a code in ERR, and what takes it
out again. -/

namespace Sys2Proof.Machine

/-! ## CMD writes under the error lock -/

section
variable {w : Word} {s : State}

/-- The two INIT words with a legal VAR (30_encoding.md R90). -/
theorem eq_encode_initOf {v : Variant}
    (h : (w = 0x1#64 ∧ v = .sha3_224) ∨ (w = 0x10001#64 ∧ v = .sha3_256)) : w = encode (initOf v) := by
  obtain ⟨rfl, rfl⟩ | ⟨rfl, rfl⟩ := h <;> rfl

theorem ne_encode_initOf (ne0 : w ≠ 0x1#64) (ne1 : w ≠ 0x10001#64) (v : Variant) : w ≠ encode (initOf v) := by
  cases v with
  | sha3_224 => exact ne0
  | sha3_256 => exact ne1

theorem cmdWrite_initOf (v : Variant) (hb : s.busy = false) :
    cmdWrite (encode (initOf v)) s = .next (s.doInit v) :=
  (cmdWrite_of_decode (decode_encode _) s).trans (exec_initOf v hb)

/-- With an error set, every word but a valid INIT is dropped, on a busy block too (60_exceptions.md R203). -/
theorem cmdWrite_locked (he : s.err ≠ .none) (notInit : ∀ v, w ≠ encode (initOf v)) : cmdWrite w s = .next s := by
  obtain ⟨t, ht, effect⟩ := cmdWrite_effect w s
  cases effect with
  | refused code => rw [ht, s.raise_of_err code he]
  | locked => exact ht
  | inited code v _ hd hv =>
    cases eq_code_of_variantOfCode hv
    exact absurd (eq_encode_of_decode hd) (notInit v)
  | absorbing _ unlocked | finishing _ _ unlocked | permuting _ unlocked => exact absurd unlocked he

end

/-- Settles O6: one clause for each check of R205, in its order. -/
theorem commandErrorPriority : Obligations.CommandErrorPriority := by
  refine ⟨fun w s busy => cmdWrite_busy w busy,
    fun w s _ locked ne0 ne1 => cmdWrite_locked locked (ne_encode_initOf ne0 ne1), fun w v s idle valid => ?_,
    fun w s idle unlocked illFormed => cmdWrite_illegal illFormed idle unlocked,
    fun w s code idle unlocked hd reserved => ?_, fun w s len idle unlocked hd phase => ?_,
    fun w s len idle unlocked hd phase long => ?_, fun s idle unlocked phase => ⟨?_, ?_, ?_⟩⟩
  · rw [eq_encode_initOf valid, cmdWrite_initOf v idle]
    rfl
  · rw [cmdWrite_of_decode hd, exec_init_reserved reserved idle unlocked]
  · obtain hd | hd := hd
    · rw [cmdWrite_of_decode hd, exec_absorb_outOfPhase idle unlocked phase]
    · rw [cmdWrite_of_decode hd, exec_final_outOfPhase len idle unlocked phase]
  · rw [cmdWrite_of_decode hd, exec_final_overlong idle unlocked phase long]
  · exact cmdWrite_illegal (by decide) idle unlocked
  · rw [cmdWrite_of_decode (decode_encode _), exec_final_outOfPhase _ idle unlocked (by simp [phase])]
  · exact cmdWrite_illegal (by decide) idle unlocked

/-! ## What a host write does to ERR -/

/-- What a host write can do to ERR: leave it, record a code in an ERR of 0 and do nothing else, or, as a valid INIT,
clear it. -/
inductive ErrEffect (widx : WordIndex) (v : Word) (s : State) : State → Prop where
  | kept (t : State) (he : t.err = s.err) : ErrEffect widx v s t
  | raised (code : Err) (he : s.err = .none) : ErrEffect widx v s { s with err := code }
  | cleared (variant : Variant) (hb : s.busy = false) (hop : HostOp.wr widx v = .cmd (initOf variant)) :
      ErrEffect widx v s (s.doInit variant)

theorem errEffect_raise (widx : WordIndex) (v : Word) (s : State) (code : Err) :
    ErrEffect widx v s (s.raise code) := by
  by_cases he : s.err = .none
  · rw [s.raise_unlocked code he]
    exact .raised code he
  · rw [s.raise_of_err code he]
    exact .kept s rfl

theorem errEffect_of_writeEffect {widx : WordIndex} {v : Word} {s t : State} (h : WriteEffect widx v s t) :
    ErrEffect widx v s t := by
  cases h with
  | refused code => exact errEffect_raise widx v s code
  | blk | state => exact .kept _ rfl
  | command t hr hc =>
    cases hc with
    | refused code => exact errEffect_raise widx v s code
    | inited code variant hb hd hv =>
      cases eq_zero_of_regOf_cmd hr
      cases eq_code_of_variantOfCode hv
      exact .cleared variant hb (congrArg (HostOp.wr 0x00#7) (eq_encode_of_decode hd))
    | locked | absorbing | finishing | permuting => exact .kept _ rfl

/-- A poll leaves ERR, whether it ends or not. -/
theorem err_of_poll {s t : State} (h : hostMove .poll s = .next t) : t.err = s.err := by
  simp only [hostMove, Host.Outcome.next.injEq] at h
  subst h
  split <;> rfl

/-- Settles O42: of the effects on ERR only a raise puts a code there. -/
theorem errorRecordsOnlyItsCode : Obligations.ErrorRecordsOnlyItsCode := by
  intro op s t h changed error
  cases op with
  | wr widx v =>
    cases errEffect_of_writeEffect (effect_of_memWrite h) with
    | kept _ he => exact absurd he changed
    | raised code he => exact ⟨he, rfl, widx, v, rfl⟩
    | cleared => exact absurd rfl error
  | rd widx =>
    cases h
    exact absurd rfl changed
  | poll => exact absurd (err_of_poll h) changed

/-! ## The release of the error lock -/

/-- The next step is a reset, or the write of a valid INIT word on an idle block: the two releases of the error lock
(60_exceptions.md R204). -/
def State.Releases (s : State) : Prop :=
  s.nextMove = .reset ∨ (s.busy = false ∧ (s.nextMove = .host (.wr 0x00#7 0x0000000000000001#64) ∨
    s.nextMove = .host (.wr 0x00#7 0x0000000000010001#64)))

theorem releases_of_init {s : State} {v : Variant} (hb : s.busy = false) (hm : s.nextMove = .host (.cmd (initOf v))) :
    s.Releases := by
  cases v with
  | sha3_224 => exact .inr ⟨hb, .inl hm⟩
  | sha3_256 => exact .inr ⟨hb, .inr hm⟩

section
variable {s t : State}

/-- A step that performs a valid INIT on an idle block. -/
theorem step_init (v : Variant) (hb : s.busy = false) (hm : s.nextMove = .host (.cmd (initOf v))) :
    step s = .next (s.popSched.popHost.doInit v) := by
  rw [step, hm]
  exact cmdWrite_initOf v hb

theorem step_reset (hm : s.nextMove = .reset) : step s = .next s.popSched.resetBlock := by
  rw [step, hm]
  rfl

/-- Both releases clear ERR, and neither leaves a digest. -/
theorem step_of_releases (release : s.Releases) (h : step s = .next t) : t.err = .none ∧ t.phase ≠ .done := by
  obtain hm | ⟨idle, hm | hm⟩ := release
  · cases (step_reset hm).symm.trans h
    exact ⟨rfl, nofun⟩
  · cases (step_init .sha3_224 idle hm).symm.trans h
    exact ⟨rfl, nofun⟩
  · cases (step_init .sha3_256 idle hm).symm.trans h
    exact ⟨rfl, nofun⟩

/-- No other step changes an ERR that is not 0. -/
theorem step_err_of_not_releases (he : s.err ≠ .none) (locked : ¬s.Releases) (h : step s = .next t) :
    t.err = s.err := by
  cases effect_of_step h with
  | idle | rd | pollAgain | pollDone => rfl
  | engine => exact engineStep_err _
  | reset hm => exact absurd (.inl hm) locked
  | wr widx v t hm hw =>
    cases errEffect_of_writeEffect hw with
    | kept _ kept => exact kept
    | raised _ unlocked => exact absurd unlocked he
    | cleared variant hb hop =>
      rw [hop] at hm
      exact absurd (releases_of_init (s := s) hb hm) locked

end

/-- Settles O43: no release leaves the block in phase DONE, and no other step clears ERR. -/
theorem errorLock : Obligations.ErrorLock := by
  intro s locked
  refine ⟨fun w ne0 ne1 => cmdWrite_locked locked (ne_encode_initOf ne0 ne1), fun w v idle valid => ?_,
    fun j v idle => memWrite_blk_idle v (regOf_blk j) idle, fun i v idle => memWrite_state_idle v (regOf_state i) idle,
    fun t h finished => step_err_of_not_releases locked (fun release => (step_of_releases release h).2 finished) h⟩
  rw [memWrite_cmd, eq_encode_initOf valid, cmdWrite_initOf v idle]
  rfl

/-- While BUSY = 1 every host write is refused, with one of two codes (20_memory.md R60, R61). -/
theorem memWrite_busy (widx : WordIndex) (v : Word) {s : State} (hb : s.busy = true) :
    ∃ code, (code = .busyAccess ∨ code = .badAddress) ∧ memWrite widx v s = .next (s.raise code) := by
  cases hr : regOf widx with
  | cmd =>
    rw [eq_zero_of_regOf_cmd hr]
    exact ⟨_, .inl rfl, cmdWrite_busy v hb⟩
  | status => exact ⟨_, .inr rfl, memWrite_of_unwritable v (.inl hr)⟩
  | reserved => exact ⟨_, .inr rfl, memWrite_of_unwritable v (.inr hr)⟩
  | blk j => exact ⟨_, .inl rfl, by rw [memWrite_of_blk v hr, if_pos hb]⟩
  | state i => exact ⟨_, .inl rfl, by rw [memWrite_of_state v hr, if_pos hb]⟩

/-- Settles O44. -/
theorem errorClearedOnlyByInitOrReset : Obligations.ErrorClearedOnlyByInitOrReset := by
  refine ⟨fun s t h error => ?_, fun widx v s t busy h => ?_⟩
  · by_cases release : s.Releases
    · exact (step_of_releases release h).1.trans (if_pos release).symm
    · exact (step_err_of_not_releases error release h).trans (if_neg release).symm
  · obtain ⟨code, codes, raised⟩ := memWrite_busy widx v busy
    cases raised.symm.trans h
    refine ⟨?_, engineStep_raise s code⟩
    rw [State.raise_err]
    split
    · exact codes.imp_right .inl
    · exact .inr (.inr rfl)

/-- Settles O45. -/
theorem everyStepAnswersNext : Obligations.EveryStepAnswersNext :=
  fun s => (step_effect s).imp fun _ ⟨answers, _⟩ => answers

end Sys2Proof.Machine

/-! Reset and hazards (70_reset_and_hazards.md): reset at any turn, and the completion of a pending command under every
schedule. -/

namespace Sys2Proof.Machine

/-! ## Reset -/

theorem nextMove_of_reset_turn {s : State} {turns : List Agent} (hs : s.sched = .reset :: turns) :
    s.nextMove = .reset := by
  simp [State.nextMove, State.nextAgent, hs]

/-- Settles O49. -/
theorem resetAtAnyTurn : Obligations.ResetAtAnyTurn := by
  intro s turns hs
  refine ⟨s.popSched.resetBlock, step_reset (nextMove_of_reset_turn hs), rfl, rfl, rfl, ?_⟩
  rw [State.resetBlock_sched, State.popSched_sched, hs, List.tail_cons]

/-! ## One step takes one turn -/

theorem sched_of_cmdEffect {w : Word} {s t : State} (h : CmdEffect w s t) : t.sched = s.sched := by
  cases h <;> rfl

theorem sched_of_writeEffect {widx : WordIndex} {v : Word} {s t : State} (h : WriteEffect widx v s t) :
    t.sched = s.sched := by
  cases h with
  | command t hr hc => exact sched_of_cmdEffect hc
  | refused | blk | state => rfl

/-- Every step takes the first turn off the schedule and leaves the later ones. -/
theorem sched_of_stepEffect {s t : State} (h : StepEffect s t) : t.sched = s.sched.tail := by
  cases h with
  | idle | rd | pollAgain | pollDone | reset => rfl
  | wr widx v t hm hw => exact sched_of_writeEffect hw
  | engine => exact engineStep_sched _

/-! ## A pending command completes -/

/-- Weak fairness: with no turn scheduled a busy block's next step is the engine's (70_reset_and_hazards.md R240). -/
theorem step_engine_of_no_turn {s : State} (hb : s.busy = true) (hs : s.sched = []) :
    step s = .next (engineStep s.popSched) := by
  have move : s.nextMove = .engine := by simp [State.nextMove, State.nextAgent, hs, hb]
  rw [step, move]
  rfl

/-- A run of one step and then `k` more. -/
theorem run_succ_of_step {s t : State} (h : step s = .next t) (k : Nat) :
    Sys2Proof.core.run (k + 1) s = Sys2Proof.core.run k t := by
  have coreStep : Sys2Proof.core.step s = .next t := h
  simp only [Host.Core.run, coreStep]

theorem run_one_of_step {s t : State} (h : step s = .next t) : Sys2Proof.core.run 1 s = .next t :=
  run_succ_of_step h 0

/-- Settles O57, by induction on the schedule: each turn either ends the wait or is one turn fewer, and after the last
the engine moves. -/
theorem pendingCommandCompletes : Obligations.PendingCommandCompletes := by
  intro s busy
  induction turns : s.sched generalizing s with
  | nil =>
    exact ⟨1, engineStep s.popSched, le_rfl, run_one_of_step (step_engine_of_no_turn busy turns), engineStep_busy _⟩
  | cons turn later ih =>
    obtain ⟨t, answers, effect⟩ := step_effect s
    have schedT : t.sched = later := by rw [sched_of_stepEffect effect, turns, List.tail_cons]
    cases busyT : t.busy with
    | false => exact ⟨1, t, by simp, run_one_of_step answers, busyT⟩
    | true =>
      obtain ⟨n, u, bound, run, idle⟩ := ih t busyT schedT
      exact ⟨n + 1, u, Nat.succ_le_succ bound, (run_succ_of_step answers n).trans run, idle⟩

end Sys2Proof.Machine

/-! Known digests (95_test_vectors.md V-S2, V-S3): a message shorter than the rate is a single block, so its digest is
read off one run of the permutation, which the kernel evaluates. -/

namespace Sys2Proof.Machine

/-- A message shorter than the rate is absorbed as one block, the padded message itself (42_padding_rate.md R178). -/
theorem sha3_of_length_lt_rateBytes {v : Variant} {m : List Byte} (short : m.length < rateBytes v) :
    sha3 v m = stateBytes (absorb (Vector.replicate 25 0#64) (pad m (rateBytes v))) (outBytes v) := by
  have noFullBlock : m.length / rateBytes v = 0 := Nat.div_eq_of_lt short
  have onlyBlock : blockAt (pad m (rateBytes v)) (rateBytes v) 0 = pad m (rateBytes v) := by
    rw [blockAt, Nat.zero_mul, List.drop_zero, List.take_of_length_le]
    rw [length_pad m (rateBytes_pos v), noFullBlock, Nat.zero_add, Nat.one_mul]
  rw [sha3_eq, noFullBlock, absorbBlocks_succ, onlyBlock]
  rfl

/-- Settles O35, by one run of the permutation for each message. -/
theorem knownDigests : Obligations.KnownDigests := by
  refine ⟨(sha3_of_length_lt_rateBytes (by decide)).trans ?_, (sha3_of_length_lt_rateBytes (by decide)).trans ?_⟩
  · decide +kernel
  · decide +kernel

end Sys2Proof.Machine
